-- ==== Sys2Proof/Word.lean ====
section
/-! DEFINITION. The word types of mag3110-seq (00_scope.md R7): every bit vector the spec names by width. -/

namespace Sys2Proof

/-- One bit: a field of one bit in an image or a command word. -/
abbrev Bit := BitVec 1

/-- A byte on the bus, a register address, an image of a control register (00_scope.md R7). -/
abbrev Byte := BitVec 8

/-- A command word (30_encoding.md R50), and a sample (00_scope.md R6 `SAMPLE_W`). -/
abbrev Word := BitVec 16

/-- The DATA field of a response (30_encoding.md R55). -/
abbrev Data := BitVec 48

/-- A bus identifier (00_scope.md R6 `BUS_ID_W`). -/
abbrev BusId := BitVec 5

/-- A 7-bit slave address (00_scope.md R6 `SLAVE_ADDR_W`). -/
abbrev SlaveAddr := BitVec 7

end Sys2Proof
end

