-- ==== Sys2Proof/Config.lean ====
section
/-! DEFINITION. The implementation parameters of 00_scope.md R6: the fixed ones as constants, the open ones
(`P_MODE_REG`, `P_RAW`, `P_ST_POS`, `HOST_BYTE_ORDER`) as a record that is an argument of the model (assumption log 8). -/

namespace Sys2Proof

namespace Config

/-- `N_REGS`: the device registers (00_scope.md R6). -/
def nRegs : Nat := 18

/-- `N_AXES` (00_scope.md R6). -/
def nAxes : Nat := 3

/-- `BURST_LEN`: the bytes of a sample burst (00_scope.md R6). -/
def burstLen : Nat := 6

/-- `DEFAULT_DR`: rate index 0, 80 Hz (00_scope.md R6). -/
def defaultDr : BitVec 3 := 0

/-- `DEFAULT_OS`: oversampling ratio 8 (00_scope.md R6). -/
def defaultOs : BitVec 4 := 8

/-- `DEFAULT_FR`: fast-read disabled (00_scope.md R6). -/
def defaultFr : Bit := 0

end Config

/-- The two registers TestMode may read, `P_MODE_REG` in {0x08, 0x00} (00_scope.md R6, 90_conflicts.md C1). -/
inductive ModeReg where
  /-- 0x08, the mode register: the default. -/
  | sysmod
  /-- 0x00, the data-ready status register: the literal reading of the source. -/
  | drStatus
  deriving DecidableEq, Repr

/-- The bit positions of CR2 that `P_ST_POS` may take: {0, 1, 2, 3, 6} (00_scope.md R6, 10_state.md R25). -/
inductive CrPos where
  | p0
  | p1
  | p2
  | p3
  | p6
  deriving DecidableEq, Repr

/-- `P_ST_POS`: the CR2 positions of the three self-test enables (10_state.md R25). -/
structure StPos where
  x : CrPos
  y : CrPos
  z : CrPos
  deriving DecidableEq, Repr

/-- `HOST_BYTE_ORDER` (00_scope.md R6). -/
inductive ByteOrder where
  | little
  | big
  deriving DecidableEq, Repr

/-- The open parameters of 00_scope.md R6, "an argument of the model". -/
structure Params where
  /-- `P_MODE_REG`. -/
  modeReg : ModeReg
  /-- `P_RAW`. -/
  raw : Bit
  /-- `P_ST_POS`. -/
  stPos : StPos
  /-- `HOST_BYTE_ORDER`. -/
  hostByteOrder : ByteOrder
  deriving DecidableEq, Repr

/-- The defaults the spec takes (00_scope.md R6, last columns of its table). -/
def Params.default : Params where
  modeReg := .sysmod
  raw := 0
  stPos := { x := .p0, y := .p1, z := .p2 }
  hostByteOrder := .little

end Sys2Proof
end

