-- ==== Sys2Proof/Syntax.lean ====
section
/-! DEFINITION. The commands of mag3110-seq: one constructor per row of spec/opcode_table.json (30_encoding.md R51),
with the argument fields of 30_encoding.md R52. -/

namespace Sys2Proof

/-- A command. Each field is an unsigned number of its field's width (30_encoding.md R59). -/
inductive Instr where
  /-- REG_ADDR: a register name code (40_register_map.md R66). -/
  | regAddr (name : BitVec 5)
  /-- PACK_CR1: rate index, oversampling RATIO, and the three field bits (40_register_map.md R70). -/
  | packCr1 (dri : BitVec 3) (osr : BitVec 4) (fr tm ac : Bit)
  /-- UNPACK_CR1: a CR1 image (40_register_map.md R72). -/
  | unpackCr1 (img : Byte)
  /-- PACK_CR2: the six CR2 field bits (40_register_map.md R75). -/
  | packCr2 (stz sty stx rst raw auto : Bit)
  /-- UNPACK_CR2: a CR2 image (40_register_map.md R76). -/
  | unpackCr2 (img : Byte)
  /-- DECODE_MODE: a system-mode byte (40_register_map.md R77). -/
  | decodeMode (byte : Byte)
  /-- GET_STATE (40_register_map.md R78). -/
  | getState
  /-- OPEN: bus identifier and slave address (41_session_mode.md R84). -/
  | openSession (bus : BusId) (addr : SlaveAddr)
  /-- TEST_MODE (41_session_mode.md R83). -/
  | testMode
  /-- READ_SAMPLE: the destination-valid mask, bit 0 for X, 1 for Y, 2 for Z (42_sample_close.md R95). -/
  | readSample (dv : BitVec 3)
  /-- CLOSE (42_sample_close.md R100). -/
  | closeSession
  deriving DecidableEq, Repr

end Sys2Proof
end

