-- ==== Sys2Proof/WellFormed.lean ====
section
/-! DEFINITION. Which commands have legal arguments (60_exceptions.md R114, check 2), and which parameters are legal
(00_scope.md R6). A field's width is in its type, so what is left to check is what the spec calls legal in
30_encoding.md R52. An ill-formed command is still decoded and executed: the block answers INVALID_ARGUMENT. -/

namespace Sys2Proof

/-- The register name codes that name a register: 0 to 17 (40_register_map.md R66). -/
def legalName (name : BitVec 5) : Bool :=
  decide (name.toNat < Config.nRegs)

/-- The numbers that are oversampling ratios: 1, 2, 4, 8 (40_register_map.md R70). -/
def legalRatio (osr : BitVec 4) : Bool :=
  osr = 1 || osr = 2 || osr = 4 || osr = 8

/-- All three destinations supplied (42_sample_close.md R95). -/
def legalDestinations (dv : BitVec 3) : Bool :=
  dv = 0b111

/-- Every argument of the command is legal (60_exceptions.md R114, check 2). -/
def Instr.wellFormed : Instr → Bool
  | .regAddr name => legalName name
  | .packCr1 _ osr _ _ _ => legalRatio osr
  | .unpackCr1 _ => true
  | .packCr2 _ _ _ _ _ _ => true
  | .unpackCr2 _ => true
  | .decodeMode _ => true
  | .getState => true
  | .openSession _ _ => true
  | .testMode => true
  | .readSample dv => legalDestinations dv
  | .closeSession => true

/-- `P_ST_POS` is three distinct positions (00_scope.md R6). -/
def Params.wellFormed (p : Params) : Bool :=
  p.stPos.x ≠ p.stPos.y && p.stPos.x ≠ p.stPos.z && p.stPos.y ≠ p.stPos.z

end Sys2Proof
end

