-- ==== Sys2Proof/Decode.lean ====
section
/-! DEFINITION. Decoding of command words (30_encoding.md R63), total on every 16-bit word and rejecting by name, the
opcode table's match and mask, and the encoder (30_encoding.md R52). -/

namespace Sys2Proof

/-- Why a word is no command. -/
inductive DecodeError where
  /-- `OPC` is one of 0x0, 0xC, 0xD, 0xE, 0xF (30_encoding.md R54). -/
  | reservedOpcode
  /-- `OPC` is assigned and a reserved bit of `ARG` is 1 (30_encoding.md R53). -/
  | reservedArgument
  deriving DecidableEq, Repr

/-- A field `v` with its least significant bit at bit `lo` of a `w`-bit value whose other bits are 0 (00_scope.md R7). -/
def place {n : Nat} (w lo : Nat) (v : BitVec n) : BitVec w := v.setWidth w <<< lo

/-- `CMD[15:12]` (30_encoding.md R50). -/
def opcOf (w : Word) : BitVec 4 := w.extractLsb' 12 4

/-- `CMD[11:0]` (30_encoding.md R50). -/
def argOf (w : Word) : BitVec 12 := w.extractLsb' 0 12

/-- The command `i`, unless a reserved bit of `ARG` is set: `reserved` is `ARG`'s reserved part (30_encoding.md R53). -/
def unlessReserved {n : Nat} (reserved : BitVec n) (i : Instr) : Except DecodeError Instr :=
  if reserved = 0 then .ok i else .error .reservedArgument

/-- Decode the argument of an assigned opcode, or reject the opcode (30_encoding.md R51, R52, R63). -/
def decodeFields (opc : BitVec 4) (arg : BitVec 12) : Except DecodeError Instr :=
  match opc with
  | 0x1#4 => unlessReserved (arg.extractLsb' 5 7) (.regAddr (arg.extractLsb' 0 5))
  | 0x2#4 => unlessReserved (arg.extractLsb' 10 2)
      (.packCr1 (arg.extractLsb' 7 3) (arg.extractLsb' 3 4) (arg.extractLsb' 2 1) (arg.extractLsb' 1 1) (arg.extractLsb' 0 1))
  | 0x3#4 => unlessReserved (arg.extractLsb' 8 4) (.unpackCr1 (arg.extractLsb' 0 8))
  | 0x4#4 => unlessReserved (arg.extractLsb' 6 6)
      (.packCr2 (arg.extractLsb' 5 1) (arg.extractLsb' 4 1) (arg.extractLsb' 3 1) (arg.extractLsb' 2 1) (arg.extractLsb' 1 1)
        (arg.extractLsb' 0 1))
  | 0x5#4 => unlessReserved (arg.extractLsb' 8 4) (.unpackCr2 (arg.extractLsb' 0 8))
  | 0x6#4 => unlessReserved (arg.extractLsb' 8 4) (.decodeMode (arg.extractLsb' 0 8))
  | 0x7#4 => unlessReserved arg .getState
  | 0x8#4 => .ok (.openSession (arg.extractLsb' 7 5) (arg.extractLsb' 0 7))
  | 0x9#4 => unlessReserved arg .testMode
  | 0xA#4 => unlessReserved (arg.extractLsb' 3 9) (.readSample (arg.extractLsb' 0 3))
  | 0xB#4 => unlessReserved arg .closeSession
  | _ => .error .reservedOpcode

/-- Decode a command word (30_encoding.md R63). -/
def decode (w : Word) : Except DecodeError Instr :=
  decodeFields (opcOf w) (argOf w)

/-- The command of an instruction of the opcode table, whose bits are `w`. A command word is presented whole on the
command port (30_encoding.md R50), so no byte order is involved. -/
def decodeTableWord (nbits w : Nat) : Option Instr :=
  (decode (BitVec.ofNat 16 (w % 2 ^ nbits))).toOption

/-- The opcode of a command (30_encoding.md R51). -/
def Instr.opcode : Instr → BitVec 4
  | .regAddr _ => 0x1
  | .packCr1 _ _ _ _ _ => 0x2
  | .unpackCr1 _ => 0x3
  | .packCr2 _ _ _ _ _ _ => 0x4
  | .unpackCr2 _ => 0x5
  | .decodeMode _ => 0x6
  | .getState => 0x7
  | .openSession _ _ => 0x8
  | .testMode => 0x9
  | .readSample _ => 0xA
  | .closeSession => 0xB

/-- The argument of a command, its fields in their places and every reserved bit 0 (30_encoding.md R52). -/
def Instr.argument : Instr → BitVec 12
  | .regAddr name => place 12 0 name
  | .packCr1 dri osr fr tm ac =>
    place 12 7 dri ||| place 12 3 osr ||| place 12 2 fr ||| place 12 1 tm ||| place 12 0 ac
  | .unpackCr1 img => place 12 0 img
  | .packCr2 stz sty stx rst raw auto =>
    place 12 5 stz ||| place 12 4 sty ||| place 12 3 stx ||| place 12 2 rst ||| place 12 1 raw ||| place 12 0 auto
  | .unpackCr2 img => place 12 0 img
  | .decodeMode byte => place 12 0 byte
  | .getState => 0
  | .openSession bus addr => place 12 7 bus ||| place 12 0 addr
  | .testMode => 0
  | .readSample dv => place 12 0 dv
  | .closeSession => 0

/-- The word of a command (30_encoding.md R50). -/
def encode (i : Instr) : Word := place 16 12 i.opcode ||| place 16 0 i.argument

/-- A row of the opcode table: a word is the row's command if and only if `(CMD & mask) == match` (30_encoding.md R63). -/
structure OpRow where
  mask : Word
  pattern : Word
  deriving DecidableEq, Repr

/-- The row of spec/opcode_table.json that a command belongs to. -/
def Instr.row : Instr → OpRow
  | .regAddr _ => { mask := 0xFFE0, pattern := 0x1000 }
  | .packCr1 _ _ _ _ _ => { mask := 0xFC00, pattern := 0x2000 }
  | .unpackCr1 _ => { mask := 0xFF00, pattern := 0x3000 }
  | .packCr2 _ _ _ _ _ _ => { mask := 0xFFC0, pattern := 0x4000 }
  | .unpackCr2 _ => { mask := 0xFF00, pattern := 0x5000 }
  | .decodeMode _ => { mask := 0xFF00, pattern := 0x6000 }
  | .getState => { mask := 0xFFFF, pattern := 0x7000 }
  | .openSession _ _ => { mask := 0xF000, pattern := 0x8000 }
  | .testMode => { mask := 0xFFFF, pattern := 0x9000 }
  | .readSample _ => { mask := 0xFFF8, pattern := 0xA000 }
  | .closeSession => { mask := 0xFFFF, pattern := 0xB000 }

/-- The eleven rows of spec/opcode_table.json, in its order. -/
def opcodeTable : List OpRow :=
  [{ mask := 0xFFE0, pattern := 0x1000 }, { mask := 0xFC00, pattern := 0x2000 }, { mask := 0xFF00, pattern := 0x3000 },
   { mask := 0xFFC0, pattern := 0x4000 }, { mask := 0xFF00, pattern := 0x5000 }, { mask := 0xFF00, pattern := 0x6000 },
   { mask := 0xFFFF, pattern := 0x7000 }, { mask := 0xF000, pattern := 0x8000 }, { mask := 0xFFFF, pattern := 0x9000 },
   { mask := 0xFFF8, pattern := 0xA000 }, { mask := 0xFFFF, pattern := 0xB000 }]

/-- The word is the row's command: `(CMD & mask) == match` (30_encoding.md R63). -/
def OpRow.covers (r : OpRow) (w : Word) : Bool :=
  w &&& r.mask = r.pattern

end Sys2Proof
end

