-- ==== Sys2Proof/Machine/State.lean ====
section
/-! DEFINITION. The state of mag3110-seq (10_state.md R20 to R28), as plain data, the reasons a step can stop, and the
state after reset (70_reset_and_hazards.md R130). Functions on these types are in Flags.lean, Operands.lean and Ops.lean. -/

namespace Sys2Proof.Machine

/-- `SESS` (10_state.md R21). -/
inductive Session where
  | closed
  | opened
  deriving DecidableEq, Repr

/-- A system mode, or no belief: the five values a mode code can have (10_state.md R23, 30_encoding.md R57). -/
inductive Mode where
  /-- NONE. -/
  | noBelief
  /-- STANDBY. -/
  | standby
  /-- ACTIVE_RAW. -/
  | activeRaw
  /-- ACTIVE_CORRECTED. -/
  | activeCorrected
  /-- UNKNOWN. -/
  | unknown
  deriving DecidableEq, Repr

/-- STATUS: the seven codes that are ever produced (60_exceptions.md R110). -/
inductive Status where
  | ok
  | ioError
  | configError
  | invalidArgument
  | illegalCommand
  | notOpen
  | alreadyOpen
  deriving DecidableEq, Repr

/-- A step identifier: the fourteen that are used (60_exceptions.md R111). -/
inductive StepId where
  /-- 0 NONE. -/
  | noStep
  | acquire
  | bind
  | modeAddrWrite
  | modeRead
  | cr1StandbyWrite
  | cr2Write
  | cr1ActiveWrite
  | confirmAddrWrite
  | confirmRead
  | confirmMode
  | sampleAddrWrite
  | sampleRead
  | release
  deriving DecidableEq, Repr

/-- `PH`: IDLE, or waiting on the transaction of step `k` (10_state.md R28). -/
inductive Phase where
  | idle
  | busy (k : StepId)
  deriving DecidableEq, Repr

/-- A bus transaction (20_memory.md R34). -/
inductive Transaction where
  /-- `BusAcquire(bus_id)`. -/
  | acquire (bus : BusId)
  /-- `BusBind(addr7)`. -/
  | bind (addr : SlaveAddr)
  /-- `BusWrite(bytes)`, in wire order. -/
  | write (bytes : List Byte)
  /-- `BusRead(n)`. -/
  | read (n : Nat)
  /-- `BusRelease()`. -/
  | release
  deriving DecidableEq, Repr

/-- An answer of the bus environment (20_memory.md R35). -/
inductive Answer where
  /-- FAIL. -/
  | fail
  /-- OK, to a transaction that is no read. -/
  | ok
  /-- OK with the bytes read, in wire order. -/
  | okBytes (bytes : List Byte)
  deriving DecidableEq, Repr

/-- What reaches the block from outside (00_scope.md R3, 70_reset_and_hazards.md R130). Assumption log 1. -/
inductive Input where
  /-- The host presents a command word. -/
  | command (w : Word)
  /-- The environment answers the outstanding transaction. -/
  | answer (a : Answer)
  /-- The environment answers a transaction that a reset abandoned (70_reset_and_hazards.md R132). -/
  | lateAnswer (a : Answer)
  /-- Reset is asserted. -/
  | reset
  deriving DecidableEq, Repr

/-- The contents of the response register (10_state.md R26, 30_encoding.md R55). -/
structure Response where
  status : Status
  step : StepId
  data : Data
  deriving DecidableEq, Repr

/-- The contents of `WB`: six bytes, first on the wire first (10_state.md R28). -/
structure Burst where
  b0 : Byte
  b1 : Byte
  b2 : Byte
  b3 : Byte
  b4 : Byte
  b5 : Byte
  deriving DecidableEq, Repr

/-- The error that a failed OPEN reports after its cleanup (41_session_mode.md R92). Assumption log 7. -/
structure PendingError where
  status : Status
  step : StepId
  deriving DecidableEq, Repr

/-- The whole state. In an Option field of a state item, `none` is the spec's ⊥, "no value" (00_scope.md R8): assumption log 2. -/
structure State where
  /-- The parameters of 00_scope.md R6. No step writes them (assumption log 8). -/
  params : Params
  /-- The inputs still to come, the next one first (assumption log 1). -/
  inputs : List Input
  /-- `SESS`. -/
  sess : Session
  /-- `BUS_ID`. -/
  busId : Option BusId
  /-- `DEV_ADDR`. -/
  devAddr : Option SlaveAddr
  /-- `CACHED_MODE`. -/
  cachedMode : Mode
  /-- `PH`. -/
  ph : Phase
  /-- `CUR`. -/
  cur : Option Word
  /-- `WB`. -/
  wb : Option Burst
  /-- `M0`. -/
  m0 : Option Mode
  /-- `RSP`. -/
  rsp : Option Response
  /-- `RSP_VALID`. -/
  rspValid : Bool
  /-- The bus transaction port: the transaction the block waits on (assumption log 12). -/
  bus : Option Transaction
  /-- The error that OPEN's cleanup will report (assumption log 7). -/
  pendErr : Option PendingError
  /-- The transcript so far (20_memory.md R44, assumption log 12). -/
  transcript : List (Transaction × Answer)
  /-- The responses so far (70_reset_and_hazards.md R142, assumption log 12). -/
  responses : List Response
  deriving DecidableEq, Repr

/-- The state items a rule reads that can be ⊥ (00_scope.md R8). -/
inductive Item where
  | busId
  | devAddr
  | cur
  | wb
  | m0
  deriving DecidableEq, Repr

/-- Why the machine has no next step. -/
inductive Fault where
  /-- Raised by `step`: IDLE and nothing presented; "The block has no other step" (41_session_mode.md R80). Safe: a stuck state. -/
  | awaitingCommand
  /-- Raised by `step`, and by a session command's answer step: the transaction of step `k` has no answer
  (60_exceptions.md R125, a hang). Safe: a stuck state. -/
  | awaitingAnswer (k : StepId)
  /-- Raised by a session command's answer step: the answer is not one that 20_memory.md R35 lets the environment give
  to the outstanding transaction (assumption log 6). Safe: the model stops. -/
  | answerShape
  /-- Raised where a rule would read an item whose content is ⊥ (00_scope.md R8, 93_implementation_defined.md U23). Safe;
  no state that meets the invariant raises it. -/
  | noValue (item : Item)
  /-- Raised where `PH`, `CUR` and the bus port do not belong together (assumption log 13). Safe; no state that meets
  the invariant raises it. -/
  | phaseMismatch
  deriving DecidableEq, Repr

/-- Why the model gives an instruction no meaning. -/
inductive Refusal where
  /-- Raised by an arm of `exec` that is not written yet. Safe: the model stops. No arm raises it now. -/
  | notModelled (mnemonic : String)
  deriving DecidableEq, Repr

/-- The block right after reset (70_reset_and_hazards.md R130), the parameters at their defaults, and nothing
presented, issued or observed yet. -/
def State.reset : State where
  params := Params.default
  inputs := []
  sess := .closed
  busId := none
  devAddr := none
  cachedMode := .noBelief
  ph := .idle
  cur := none
  wb := none
  m0 := none
  rsp := none
  rspValid := false
  bus := none
  pendErr := none
  transcript := []
  responses := []

/-- The outcome of a step of this machine. -/
abbrev Out := Host.Outcome State Fault Refusal

end Sys2Proof.Machine
end

