-- ==== Sys2Proof/Machine/Flags.lean ====
section
/-! DEFINITION. The codes of the response's flags and of the modes: STATUS (60_exceptions.md R110), STEP
(60_exceptions.md R111), the mode codes (30_encoding.md R57), the session bit (10_state.md R21), and the response as one
56-bit value (30_encoding.md R55). The block has no other flags (10_state.md R20). -/

namespace Sys2Proof.Machine

/-- 0 = CLOSED, 1 = OPEN (10_state.md R21). -/
def Session.code : Session → Bit
  | .closed => 0
  | .opened => 1

/-- The mode code (30_encoding.md R57). -/
def Mode.code : Mode → BitVec 3
  | .noBelief => 0
  | .standby => 1
  | .activeRaw => 2
  | .activeCorrected => 3
  | .unknown => 4

/-- A mode that confirms OPEN: ACTIVE_RAW or ACTIVE_CORRECTED (41_session_mode.md R90). -/
def Mode.isActive : Mode → Bool
  | .noBelief => false
  | .standby => false
  | .activeRaw => true
  | .activeCorrected => true
  | .unknown => false

/-- The STATUS code (60_exceptions.md R110). -/
def Status.code : Status → BitVec 4
  | .ok => 0
  | .ioError => 1
  | .configError => 2
  | .invalidArgument => 3
  | .illegalCommand => 4
  | .notOpen => 5
  | .alreadyOpen => 6

/-- The STEP code (60_exceptions.md R111). -/
def StepId.code : StepId → BitVec 4
  | .noStep => 0
  | .acquire => 1
  | .bind => 2
  | .modeAddrWrite => 3
  | .modeRead => 4
  | .cr1StandbyWrite => 5
  | .cr2Write => 6
  | .cr1ActiveWrite => 7
  | .confirmAddrWrite => 8
  | .confirmRead => 9
  | .confirmMode => 10
  | .sampleAddrWrite => 11
  | .sampleRead => 12
  | .release => 13

/-- A step at which a bus transaction is answered: 1 to 9 and 11 to 13 (60_exceptions.md R111). -/
def StepId.isTransaction : StepId → Bool
  | .noStep => false
  | .confirmMode => false
  | _ => true

/-- `RSP` as one 56-bit value, `{STATUS[3:0], STEP[3:0], DATA[47:0]}` (30_encoding.md R55). -/
def Response.word (r : Response) : BitVec 56 :=
  place 56 52 r.status.code ||| place 56 48 r.step.code ||| place 56 0 r.data

/-- The shape every response has (30_encoding.md R55, 60_exceptions.md R110): DATA is 0 unless STATUS is OK, STEP names
the failing transaction of an IO_ERROR, is 10 for a CONFIG_ERROR and 0 otherwise. -/
def Response.legal (r : Response) : Bool :=
  (r.status = .ok || r.data = 0) &&
  match r.status with
  | .ioError => r.step.isTransaction
  | .configError => r.step = .confirmMode
  | _ => r.step = .noStep

end Sys2Proof.Machine
end

