-- ==== Sys2Proof/Machine/Operands.lean ====
section
/-! DEFINITION. The operand forms: the register map (20_memory.md R30), the CR1 and CR2 images (40_register_map.md R67
to R76, R79), the system-mode byte (40_register_map.md R77), the sample reassembly (42_sample_close.md R96), the DATA
layouts (30_encoding.md R56), and the transaction of each step (60_exceptions.md R111). -/

namespace Sys2Proof.Machine

/-! ### The register map -/

/-- The 18 device registers, by their datasheet names (20_memory.md R30). -/
inductive Reg where
  | drStatus
  | outXMsb
  | outXLsb
  | outYMsb
  | outYLsb
  | outZMsb
  | outZLsb
  | whoAmI
  | sysmod
  | offXMsb
  | offXLsb
  | offYMsb
  | offYLsb
  | offZMsb
  | offZLsb
  | dieTemp
  | ctrlReg1
  | ctrlReg2
  deriving DecidableEq, Repr

/-- What the source calls a register (20_memory.md R30, column "source role"). -/
inductive RegRole where
  | status
  | dataByte
  | identity
  | mode
  | offset
  | temperature
  | control
  deriving DecidableEq, Repr

/-- Device access (20_memory.md R30). -/
inductive RegAccess where
  | readOnly
  | readWrite
  deriving DecidableEq, Repr

/-- A register's one-byte bus address (20_memory.md R30). -/
def Reg.addr : Reg → Byte
  | .drStatus => 0x00
  | .outXMsb => 0x01
  | .outXLsb => 0x02
  | .outYMsb => 0x03
  | .outYLsb => 0x04
  | .outZMsb => 0x05
  | .outZLsb => 0x06
  | .whoAmI => 0x07
  | .sysmod => 0x08
  | .offXMsb => 0x09
  | .offXLsb => 0x0A
  | .offYMsb => 0x0B
  | .offYLsb => 0x0C
  | .offZMsb => 0x0D
  | .offZLsb => 0x0E
  | .dieTemp => 0x0F
  | .ctrlReg1 => 0x10
  | .ctrlReg2 => 0x11

/-- A register's role (20_memory.md R30). -/
def Reg.role : Reg → RegRole
  | .drStatus => .status
  | .outXMsb => .dataByte
  | .outXLsb => .dataByte
  | .outYMsb => .dataByte
  | .outYLsb => .dataByte
  | .outZMsb => .dataByte
  | .outZLsb => .dataByte
  | .whoAmI => .identity
  | .sysmod => .mode
  | .offXMsb => .offset
  | .offXLsb => .offset
  | .offYMsb => .offset
  | .offYLsb => .offset
  | .offZMsb => .offset
  | .offZLsb => .offset
  | .dieTemp => .temperature
  | .ctrlReg1 => .control
  | .ctrlReg2 => .control

/-- A register's device access (20_memory.md R30): the offset and control registers are writable. -/
def Reg.access (r : Reg) : RegAccess :=
  match r.role with
  | .offset => .readWrite
  | .control => .readWrite
  | .status => .readOnly
  | .dataByte => .readOnly
  | .identity => .readOnly
  | .mode => .readOnly
  | .temperature => .readOnly

/-- The registers in the source's order (20_memory.md R30). -/
def allRegs : List Reg :=
  [.drStatus, .outXMsb, .outXLsb, .outYMsb, .outYLsb, .outZMsb, .outZLsb, .whoAmI, .sysmod, .offXMsb, .offXLsb,
   .offYMsb, .offYLsb, .offZMsb, .offZLsb, .dieTemp, .ctrlReg1, .ctrlReg2]

/-- The register a name code names, if it names one (40_register_map.md R66, 92_eei_decisions.md D7). -/
def regOfCode (name : BitVec 5) : Option Reg :=
  allRegs[name.toNat]?

/-- The bus address of the register TestMode reads, `P_MODE_REG` (00_scope.md R6). -/
def modeRegAddr : ModeReg → Byte
  | .sysmod => 0x08
  | .drStatus => 0x00

/-! ### The CR1 image -/

/-- The output data rate of a rate index, in thousandths of a hertz: a name only (40_register_map.md R67). -/
def rateMilliHz (dri : BitVec 3) : Nat :=
  80000 / 2 ^ dri.toNat

/-- The 2-bit code of an oversampling ratio (40_register_map.md R68). -/
def osCode (osr : BitVec 4) : Option (BitVec 2) :=
  if osr = 1 then some 0
  else if osr = 2 then some 1
  else if osr = 4 then some 2
  else if osr = 8 then some 3
  else none

/-- The ratio of a 2-bit oversampling code, `1 << c` (40_register_map.md R68). -/
def osRatio (c : BitVec 2) : BitVec 4 :=
  1#4 <<< c.toNat

/-- The field values of CR1, oversampling as its 2-bit code (10_state.md R24). -/
structure Cr1Fields where
  ac : Bit
  tm : Bit
  fr : Bit
  os : BitVec 2
  dri : BitVec 3
  deriving DecidableEq, Repr

/-- `pack_cr1` (40_register_map.md R69). -/
def packCr1 (f : Cr1Fields) : Byte :=
  place 8 5 f.dri ||| place 8 3 f.os ||| place 8 2 f.fr ||| place 8 1 f.tm ||| place 8 0 f.ac

/-- `unpack_cr1` (40_register_map.md R71). -/
def unpackCr1 (b : Byte) : Cr1Fields where
  ac := b.extractLsb' 0 1
  tm := b.extractLsb' 1 1
  fr := b.extractLsb' 2 1
  os := b.extractLsb' 3 2
  dri := b.extractLsb' 5 3

/-! ### The CR2 image -/

/-- A self-test position as a bit number (10_state.md R25). -/
def crBit : CrPos → Nat
  | .p0 => 0
  | .p1 => 1
  | .p2 => 2
  | .p3 => 3
  | .p6 => 6

/-- The field values of CR2 (10_state.md R25). -/
structure Cr2Fields where
  auto : Bit
  raw : Bit
  rst : Bit
  stx : Bit
  sty : Bit
  stz : Bit
  deriving DecidableEq, Repr

/-- `pack_cr2`, the self-test bits at `P_ST_POS` (40_register_map.md R74). -/
def packCr2 (pos : StPos) (f : Cr2Fields) : Byte :=
  place 8 7 f.auto ||| place 8 5 f.raw ||| place 8 4 f.rst |||
    place 8 (crBit pos.x) f.stx ||| place 8 (crBit pos.y) f.sty ||| place 8 (crBit pos.z) f.stz

/-- The fields of a CR2 image, its reserved bits ignored (40_register_map.md R76). -/
def unpackCr2 (pos : StPos) (b : Byte) : Cr2Fields where
  auto := b.extractLsb' 7 1
  raw := b.extractLsb' 5 1
  rst := b.extractLsb' 4 1
  stx := b.extractLsb' (crBit pos.x) 1
  sty := b.extractLsb' (crBit pos.y) 1
  stz := b.extractLsb' (crBit pos.z) 1

/-- The bits of a CR2 image that can be 1: `CR2_MASK` (40_register_map.md R74). -/
def cr2Mask (pos : StPos) : Byte :=
  packCr2 pos { auto := 1, raw := 1, rst := 1, stx := 1, sty := 1, stz := 1 }

/-! ### The images Configure writes (40_register_map.md R79) -/

/-- The CR1 image of the sequencer's defaults with the given AC: DR = 0, ratio 8, FR = 0, TM = 0. -/
def defaultCr1 (ac : Bit) : Byte :=
  packCr1 { ac := ac, tm := 0, fr := Config.defaultFr, os := 3, dri := Config.defaultDr }

/-- `CR1_STANDBY_IMG`. -/
def cr1StandbyImg : Byte := defaultCr1 0

/-- `CR1_ACTIVE_IMG`. -/
def cr1ActiveImg : Byte := defaultCr1 1

/-- `CR2_IMG`: RAW at `P_RAW`, every other field 0. -/
def cr2Img (p : Params) : Byte :=
  packCr2 p.stPos { auto := 0, raw := p.raw, rst := 0, stx := 0, sty := 0, stz := 0 }

/-! ### The system-mode byte and the sample -/

/-- `decode_mode`: bits 1:0, the others not read (40_register_map.md R77, 10_state.md R27). -/
def decodeMode (b : Byte) : Mode :=
  match b.extractLsb' 0 2 with
  | 0b00#2 => .standby
  | 0b01#2 => .activeRaw
  | 0b10#2 => .activeCorrected
  | _ => .unknown

/-- All three destinations are supplied and writable (42_sample_close.md R95). -/
def allDestinations (dv : BitVec 3) : Bool := dv = 0b111

/-- One lane of the reassembly, `{msb, lsb}` (42_sample_close.md R96, R98). -/
def lane (msb lsb : Byte) : Word := place 16 8 msb ||| place 16 0 lsb

/-- A triaxial sample, each axis a 16-bit value (42_sample_close.md R96). -/
structure Sample where
  x : Word
  y : Word
  z : Word
  deriving DecidableEq, Repr

/-- `reassemble`, the byte-order correction (42_sample_close.md R96). -/
def reassemble (wb : Burst) : Sample where
  x := lane wb.b0 wb.b1
  y := lane wb.b2 wb.b3
  z := lane wb.b4 wb.b5

/-- `int16`: a 16-bit value read as two's complement (00_scope.md R7, 42_sample_close.md R96). -/
def int16 (v : Word) : Int :=
  if v.toNat < 0x8000 then (v.toNat : Int) else (v.toNat : Int) - 0x10000

/-! ### DATA layouts (30_encoding.md R56) -/

/-- A byte in DATA[7:0]: REG_ADDR, PACK_CR1, PACK_CR2. -/
def byteData (b : Byte) : Data := place 48 0 b

/-- UNPACK_CR1: the PACK_CR1 argument layout, oversampling as the ratio. -/
def cr1Data (f : Cr1Fields) : Data :=
  place 48 7 f.dri ||| place 48 3 (osRatio f.os) ||| place 48 2 f.fr ||| place 48 1 f.tm ||| place 48 0 f.ac

/-- UNPACK_CR2: the PACK_CR2 argument layout. -/
def cr2Data (f : Cr2Fields) : Data :=
  place 48 5 f.stz ||| place 48 4 f.sty ||| place 48 3 f.stx ||| place 48 2 f.rst ||| place 48 1 f.raw |||
    place 48 0 f.auto

/-- A mode code in DATA[2:0]: DECODE_MODE, OPEN. -/
def modeData (m : Mode) : Data := place 48 0 m.code

/-- TEST_MODE: the mode code in [2:0], the raw byte in [15:8]. -/
def testModeData (m : Mode) (b : Byte) : Data := place 48 8 b ||| place 48 0 m.code

/-- GET_STATE: SESS [0], CACHED_MODE [3:1], DEV_ADDR [10:4], BUS_ID [15:11]. -/
def stateData (sess : Session) (m : Mode) (addr : SlaveAddr) (bus : BusId) : Data :=
  place 48 11 bus ||| place 48 4 addr ||| place 48 1 m.code ||| place 48 0 sess.code

/-- READ_SAMPLE: X [15:0], Y [31:16], Z [47:32]. -/
def sampleData (v : Sample) : Data := place 48 32 v.z ||| place 48 16 v.y ||| place 48 0 v.x

/-! ### Bus transactions -/

/-- The answer is one that the environment can give to the transaction (20_memory.md R35). -/
def Transaction.admits : Transaction → Answer → Bool
  | _, .fail => true
  | .read n, .okBytes bs => bs.length = n
  | .read _, .ok => false
  | _, .ok => true
  | _, .okBytes _ => false

/-- The address write of a register read (20_memory.md R38). -/
def addrWrite (a : Byte) : Transaction := .write [a]

/-- A register write (20_memory.md R37). -/
def regWrite (a v : Byte) : Transaction := .write [a, v]

/-- The transactions of OPEN, by step (60_exceptions.md R111; 41_session_mode.md R85 to R92). -/
def openTransaction (p : Params) (bus : BusId) (addr : SlaveAddr) (k : StepId) : Option Transaction :=
  match k with
  | .acquire => some (.acquire bus)
  | .bind => some (.bind addr)
  | .modeAddrWrite => some (addrWrite (modeRegAddr p.modeReg))
  | .modeRead => some (.read 1)
  | .cr1StandbyWrite => some (regWrite Reg.ctrlReg1.addr cr1StandbyImg)
  | .cr2Write => some (regWrite Reg.ctrlReg2.addr (cr2Img p))
  | .cr1ActiveWrite => some (regWrite Reg.ctrlReg1.addr cr1ActiveImg)
  | .confirmAddrWrite => some (addrWrite (modeRegAddr p.modeReg))
  | .confirmRead => some (.read 1)
  | .release => some .release
  | _ => none

/-- The transactions of TEST_MODE, by step (60_exceptions.md R111; 41_session_mode.md R83). -/
def testModeTransaction (p : Params) (k : StepId) : Option Transaction :=
  match k with
  | .modeAddrWrite => some (addrWrite (modeRegAddr p.modeReg))
  | .modeRead => some (.read 1)
  | _ => none

/-- The transactions of READ_SAMPLE, by step (60_exceptions.md R111; 42_sample_close.md R95). -/
def readSampleTransaction (k : StepId) : Option Transaction :=
  match k with
  | .sampleAddrWrite => some (addrWrite Reg.outXMsb.addr)
  | .sampleRead => some (.read Config.burstLen)
  | _ => none

/-- The transaction of CLOSE (60_exceptions.md R111; 42_sample_close.md R100). -/
def closeTransaction (k : StepId) : Option Transaction :=
  match k with
  | .release => some .release
  | _ => none

/-- The transaction that command `i` waits on at step `k`, if it has that step (60_exceptions.md R111, 30_encoding.md R58). -/
def stepTransaction (p : Params) (i : Instr) (k : StepId) : Option Transaction :=
  match i with
  | .openSession bus addr => openTransaction p bus addr k
  | .testMode => testModeTransaction p k
  | .readSample _ => readSampleTransaction k
  | .closeSession => closeTransaction k
  | .regAddr _ => none
  | .packCr1 _ _ _ _ _ => none
  | .unpackCr1 _ => none
  | .packCr2 _ _ _ _ _ _ => none
  | .unpackCr2 _ => none
  | .decodeMode _ => none
  | .getState => none

end Sys2Proof.Machine
end

