-- ==== Sys2Proof/Machine/Ops.lean ====
section
/-! DEFINITION. The shared operations of the sequencer: accepting a command (41_session_mode.md R80), issuing a bus
transaction (00_scope.md R9, R10), taking its answer (20_memory.md R35, R44), responding (10_state.md R26), raising an
error (00_scope.md R11, 60_exceptions.md R112, R113), closing a session, OPEN's cleanup (41_session_mode.md R92), reset
(70_reset_and_hazards.md R130 to R132), and the host's read of the response register. -/

namespace Sys2Proof.Machine

/-! ### Inputs -/

/-- The next input is consumed and has no effect on the block: a word presented while BUSY (41_session_mode.md R80,
"Busy port"), or a late answer (70_reset_and_hazards.md R132). Assumption log 4, 5. -/
def State.dropInput (s : State) : State :=
  { s with inputs := s.inputs.tail }

/-- The writes common to every accepted word (41_session_mode.md R80, "Accept"); the word leaves the port. -/
def State.accept (w : Word) (s : State) : State :=
  { s with inputs := s.inputs.tail, cur := some w, rspValid := false, wb := none, m0 := none }

/-- Reset (70_reset_and_hazards.md R130 to R132): every state item takes its reset value, the outstanding transaction is
abandoned, no transaction is issued and no response given. Parameters, inputs still to come and observations stay. -/
def State.resetBlock (s : State) : State :=
  { State.reset with
    params := s.params, inputs := s.inputs.tail, transcript := s.transcript, responses := s.responses }

/-! ### Responses and errors -/

/-- A command completes: the response is written, `RSP_VALID <- 1`, `PH <- IDLE` (10_state.md R26, 41_session_mode.md R80). -/
def State.respond (st : Status) (k : StepId) (d : Data) (s : State) : State :=
  { s with
    rsp := some { status := st, step := k, data := d }, rspValid := true, ph := .idle, bus := none, pendErr := none,
    responses := s.responses ++ [{ status := st, step := k, data := d }] }

/-- A command completes with STATUS = OK, STEP = 0. -/
def State.done (d : Data) (s : State) : State := s.respond .ok .noStep d

/-- `raise E(step)`: the command ends with an error response, DATA = 0 (00_scope.md R11, 60_exceptions.md R112). This is
the block's only exception mechanism; there is no return from it (60_exceptions.md R116). -/
def State.raise (e : Status) (k : StepId) (s : State) : State := s.respond e k 0

/-! ### Bus transactions -/

/-- Issue transaction `t` with step identifier `k`, and wait (00_scope.md R9, 41_session_mode.md R80). -/
def State.issue (k : StepId) (t : Transaction) (s : State) : State :=
  { s with ph := .busy k, bus := some t }

/-- `MemWrite(a, 1, v)`: one transaction, address then data (00_scope.md R10, 20_memory.md R37). -/
def State.issueRegWrite (k : StepId) (a v : Byte) (s : State) : State := s.issue k (regWrite a v)

/-- The first transaction of `MemRead(a, n)` (00_scope.md R10, 20_memory.md R38). -/
def State.issueAddrWrite (k : StepId) (a : Byte) (s : State) : State := s.issue k (addrWrite a)

/-- The second transaction of `MemRead(a, n)` (20_memory.md R38). -/
def State.issueRead (k : StepId) (n : Nat) (s : State) : State := s.issue k (.read n)

/-- The answer `a` to the outstanding transaction `t` is taken: the pair joins the transcript (20_memory.md R44). -/
def State.takeAnswer (t : Transaction) (a : Answer) (s : State) : State :=
  { s with inputs := s.inputs.tail, bus := none, transcript := s.transcript ++ [(t, a)] }

/-- The answer step of a session command: the next input must be an answer of a shape that 20_memory.md R35 gives the
outstanding transaction; it is taken, and `f` goes on with it. -/
def State.onAnswer (k : StepId) (s : State) (f : Answer → State → Out) : Out :=
  match s.bus, s.inputs with
  | none, _ => .fault .phaseMismatch
  | some t, .answer a :: _ => if t.admits a then f a (s.takeAnswer t a) else .fault .answerShape
  | some _, _ => .fault (.awaitingAnswer k)

/-- The accepting step of a command: only in IDLE (41_session_mode.md R80). -/
def State.onAccept (s : State) (f : State → Out) : Out :=
  match s.ph with
  | .idle => f s
  | .busy _ => .fault .phaseMismatch

/-! ### Sessions -/

/-- What CLOSE and a failed OPEN leave of the session: CLOSED, no binding, no belief (10_state.md R21 to R23). -/
def State.clearSession (s : State) : State :=
  { s with sess := .closed, busId := none, devAddr := none, cachedMode := .noBelief }

/-- Open the session (41_session_mode.md R91). -/
def State.openSession (s : State) : State := { s with sess := .opened }

/-- `BUS_ID <- bus` (41_session_mode.md R85). -/
def State.setBusId (bus : BusId) (s : State) : State := { s with busId := some bus }

/-- `DEV_ADDR <- addr` (41_session_mode.md R86). -/
def State.setDevAddr (addr : SlaveAddr) (s : State) : State := { s with devAddr := some addr }

/-- `CACHED_MODE <- m` (41_session_mode.md R82). -/
def State.setCachedMode (m : Mode) (s : State) : State := { s with cachedMode := m }

/-- `M0 <- m` (41_session_mode.md R87). -/
def State.setM0 (m : Mode) (s : State) : State := { s with m0 := some m }

/-- `WB <- burst` (42_sample_close.md R95). -/
def State.setWb (b : Burst) (s : State) : State := { s with wb := some b }

/-! ### OPEN's cleanup (41_session_mode.md R92) -/

/-- A failure after Acquire succeeded: release the handle with step 13, keeping the error to report. -/
def State.startCleanup (e : Status) (k : StepId) (s : State) : State :=
  { s.issue .release .release with pendErr := some { status := e, step := k } }

/-- `raise` inside OPEN at step `k`: nothing to release when Acquire itself failed, else the cleanup release first. -/
def State.failOpen (e : Status) (k : StepId) (s : State) : State :=
  if k = .acquire then s.clearSession.raise e k else s.startCleanup e k

/-- The cleanup release is answered, whatever the answer: the session is CLOSED and the ORIGINAL error is reported. -/
def State.endCleanup (s : State) : Out :=
  match s.pendErr with
  | none => .fault .phaseMismatch
  | some e => .next (s.clearSession.raise e.status e.step)

/-! ### The host -/

/-- The host reads the response register. While `RSP_VALID` is 1 it gives the response to the last accepted command, and
reading changes nothing (10_state.md R26). DESIGN CHOICE (safe, assumption log 21): R26 does not say what a read gives while
`RSP_VALID` is 0 and `RSP` still holds an earlier response; the model answers none. -/
def State.hostRead (s : State) : Option Response :=
  if s.rspValid then s.rsp else none

end Sys2Proof.Machine
end

