-- ==== Sys2Proof/Machine/RegisterMap.lean ====
section
/-! DEFINITION. The seven Register Map unit commands (40_register_map.md R65 to R78): each completes in the step that
accepts it, issues no transaction, and writes no block state but the response. -/

namespace Sys2Proof.Machine

/-- REG_ADDR (40_register_map.md R66). -/
def execRegAddr (name : BitVec 5) (s : State) : Out :=
  s.onAccept fun s =>
    match regOfCode name with
    | none => .next (s.raise .invalidArgument .noStep)
    | some r => .next (s.done (byteData r.addr))

/-- PACK_CR1 (40_register_map.md R70). -/
def execPackCr1 (dri : BitVec 3) (osr : BitVec 4) (fr tm ac : Bit) (s : State) : Out :=
  s.onAccept fun s =>
    match osCode osr with
    | none => .next (s.raise .invalidArgument .noStep)
    | some os => .next (s.done (byteData (packCr1 { ac := ac, tm := tm, fr := fr, os := os, dri := dri })))

/-- UNPACK_CR1 (40_register_map.md R72). -/
def execUnpackCr1 (img : Byte) (s : State) : Out :=
  s.onAccept fun s => .next (s.done (cr1Data (unpackCr1 img)))

/-- PACK_CR2 (40_register_map.md R75). -/
def execPackCr2 (stz sty stx rst raw auto : Bit) (s : State) : Out :=
  s.onAccept fun s =>
    .next (s.done (byteData
      (packCr2 s.params.stPos { auto := auto, raw := raw, rst := rst, stx := stx, sty := sty, stz := stz })))

/-- UNPACK_CR2 (40_register_map.md R76). -/
def execUnpackCr2 (img : Byte) (s : State) : Out :=
  s.onAccept fun s => .next (s.done (cr2Data (unpackCr2 s.params.stPos img)))

/-- DECODE_MODE (40_register_map.md R77). -/
def execDecodeMode (byte : Byte) (s : State) : Out :=
  s.onAccept fun s => .next (s.done (modeData (decodeMode byte)))

/-- GET_STATE (40_register_map.md R78): the binding is masked to 0 while CLOSED, and read while OPEN. -/
def execGetState (s : State) : Out :=
  s.onAccept fun s =>
    match s.sess with
    | .closed => .next (s.done (stateData .closed s.cachedMode 0 0))
    | .opened =>
      match s.devAddr, s.busId with
      | none, _ => .fault (.noValue .devAddr)
      | some _, none => .fault (.noValue .busId)
      | some addr, some bus => .next (s.done (stateData .opened s.cachedMode addr bus))

end Sys2Proof.Machine
end

