-- ==== Sys2Proof/Machine/SampleClose.lean ====
section
/-! DEFINITION. READ_SAMPLE and CLOSE (42_sample_close.md R95 to R101). Each meaning is the command's accepting step when
`PH = IDLE` and its answer step when `PH = BUSY(k)` (41_session_mode.md R80). -/

namespace Sys2Proof.Machine

/-! ### READ_SAMPLE (42_sample_close.md R95) -/

/-- The reassembled `WB` is delivered (42_sample_close.md R96). -/
def State.deliverSample (s : State) : Out :=
  match s.wb with
  | none => .fault (.noValue .wb)
  | some b => .next (s.done (sampleData (reassemble b)))

/-- What READ_SAMPLE does with an answer that is not FAIL. -/
def readSampleOk (k : StepId) (a : Answer) (s : State) : Out :=
  match k, a with
  | .sampleAddrWrite, _ => .next (s.issueRead .sampleRead Config.burstLen)
  | .sampleRead, .okBytes [b0, b1, b2, b3, b4, b5] =>
    (s.setWb { b0 := b0, b1 := b1, b2 := b2, b3 := b3, b4 := b4, b5 := b5 }).deliverSample
  | .sampleRead, _ => .fault .answerShape
  | _, _ => .fault .phaseMismatch

/-- READ_SAMPLE: the destinations are checked before the session (60_exceptions.md R114). -/
def execReadSample (dv : BitVec 3) (s : State) : Out :=
  match s.ph with
  | .idle =>
    if allDestinations dv then
      match s.sess with
      | .closed => .next (s.raise .notOpen .noStep)
      | .opened => .next (s.issueAddrWrite .sampleAddrWrite Reg.outXMsb.addr)
    else .next (s.raise .invalidArgument .noStep)
  | .busy k =>
    s.onAnswer k fun a s => if a = .fail then .next (s.raise .ioError k) else readSampleOk k a s

/-! ### CLOSE (42_sample_close.md R100) -/

/-- The release is answered: the session is CLOSED whatever the answer, and a FAIL is reported after that. -/
def State.closeAnswered (a : Answer) (s : State) : State :=
  if a = .fail then s.clearSession.raise .ioError .release else s.clearSession.done 0

/-- CLOSE. -/
def execClose (s : State) : Out :=
  match s.ph with
  | .idle =>
    match s.sess with
    | .closed => .next (s.raise .notOpen .noStep)
    | .opened => .next (s.issue .release .release)
  | .busy .release => s.onAnswer .release fun a s => .next (s.closeAnswered a)
  | .busy _ => .fault .phaseMismatch

end Sys2Proof.Machine
end

