-- ==== Sys2Proof/Machine/SessionMode.lean ====
section
/-! DEFINITION. TEST_MODE and OPEN (41_session_mode.md R82 to R92). Each meaning is the command's accepting step when
`PH = IDLE` and its answer step when `PH = BUSY(k)` (41_session_mode.md R80). -/

namespace Sys2Proof.Machine

/-! ### The TestMode sub-sequence (41_session_mode.md R82) -/

/-- `T(kw) := BusWrite([P_MODE_REG])`. -/
def State.testModeWrite (kw : StepId) (s : State) : State := s.issueAddrWrite kw (modeRegAddr s.params.modeReg)

/-- `T(kr) := BusRead(1)`. -/
def State.testModeRead (kr : StepId) (s : State) : State := s.issueRead kr 1

/-- The read is answered with one byte: decode it, `CACHED_MODE <- m`, and go on with the mode and the byte. -/
def State.testModeByte (a : Answer) (s : State) (f : Mode → Byte → State → Out) : Out :=
  match a with
  | .okBytes [b] => f (decodeMode b) b (s.setCachedMode (decodeMode b))
  | _ => .fault .answerShape

/-! ### TEST_MODE (41_session_mode.md R83) -/

/-- What TEST_MODE does with an answer that is not FAIL. -/
def testModeOk (k : StepId) (a : Answer) (s : State) : Out :=
  match k with
  | .modeAddrWrite => .next (s.testModeRead .modeRead)
  | .modeRead => s.testModeByte a fun m b s => .next (s.done (testModeData m b))
  | _ => .fault .phaseMismatch

/-- TEST_MODE. -/
def execTestMode (s : State) : Out :=
  match s.ph with
  | .idle =>
    match s.sess with
    | .closed => .next (s.raise .notOpen .noStep)
    | .opened => .next (s.testModeWrite .modeAddrWrite)
  | .busy k =>
    s.onAnswer k fun a s => if a = .fail then .next (s.raise .ioError k) else testModeOk k a s

/-! ### OPEN (41_session_mode.md R84 to R92) -/

/-- Configure, step 3: the activate write (41_session_mode.md R89). -/
def State.configureActivate (s : State) : State :=
  s.issueRegWrite .cr1ActiveWrite Reg.ctrlReg1.addr cr1ActiveImg

/-- Configure, step 2: force Standby when `M0` is not STANDBY; the decision reads `M0`, the value just read, and never
`CACHED_MODE` (41_session_mode.md R88, R94). -/
def State.configureQuiesce (s : State) : Out :=
  match s.m0 with
  | none => .fault (.noValue .m0)
  | some m =>
    if m = .standby then .next s.configureActivate
    else .next (s.issueRegWrite .cr1StandbyWrite Reg.ctrlReg1.addr cr1StandbyImg)

/-- Configure, step 4, and the commit: an active mode opens the session, any other is a configuration error
(41_session_mode.md R90, R91). -/
def State.configureConfirm (m : Mode) (s : State) : State :=
  if m.isActive then s.openSession.done (modeData m) else s.failOpen .configError .confirmMode

/-- What OPEN does with an answer that is not FAIL, at every step but the release. -/
def openOk (addr : SlaveAddr) (k : StepId) (a : Answer) (s : State) : Out :=
  match k with
  | .acquire => .next ((s.setDevAddr addr).issue .bind (.bind addr))
  | .bind => .next (s.testModeWrite .modeAddrWrite)
  | .modeAddrWrite => .next (s.testModeRead .modeRead)
  | .modeRead => s.testModeByte a fun m _ s => (s.setM0 m).configureQuiesce
  | .cr1StandbyWrite => .next (s.issueRegWrite .cr2Write Reg.ctrlReg2.addr (cr2Img s.params))
  | .cr2Write => .next s.configureActivate
  | .cr1ActiveWrite => .next (s.testModeWrite .confirmAddrWrite)
  | .confirmAddrWrite => .next (s.testModeRead .confirmRead)
  | .confirmRead => s.testModeByte a fun m _ s => .next (s.configureConfirm m)
  | _ => .fault .phaseMismatch

/-- OPEN. -/
def execOpen (bus : BusId) (addr : SlaveAddr) (s : State) : Out :=
  match s.ph with
  | .idle =>
    match s.sess with
    | .opened => .next (s.raise .alreadyOpen .noStep)
    | .closed => .next ((s.setBusId bus).issue .acquire (.acquire bus))
  | .busy .release => s.onAnswer .release fun _ s => s.endCleanup
  | .busy k =>
    s.onAnswer k fun a s => if a = .fail then .next (s.failOpen .ioError k) else openOk addr k a s

end Sys2Proof.Machine
end

