-- ==== Sys2Proof/Machine/Dispatch.lean ====
section
/-! DEFINITION. exec: one arm per command, each one call of its meaning. `exec i s` is the step of command `i` in state
`s`: its accepting step when `PH = IDLE`, its answer step when `PH = BUSY(k)` (41_session_mode.md R80). -/

namespace Sys2Proof.Machine

def exec (i : Instr) (s : State) : Host.Outcome State Fault Refusal :=
  match i with
  | .regAddr name => Sys2Proof.Machine.execRegAddr name s
  | .packCr1 dri osr fr tm ac => Sys2Proof.Machine.execPackCr1 dri osr fr tm ac s
  | .unpackCr1 img => Sys2Proof.Machine.execUnpackCr1 img s
  | .packCr2 stz sty stx rst raw auto => Sys2Proof.Machine.execPackCr2 stz sty stx rst raw auto s
  | .unpackCr2 img => Sys2Proof.Machine.execUnpackCr2 img s
  | .decodeMode byte => Sys2Proof.Machine.execDecodeMode byte s
  | .getState => Sys2Proof.Machine.execGetState s
  | .openSession bus addr => Sys2Proof.Machine.execOpen bus addr s
  | .testMode => Sys2Proof.Machine.execTestMode s
  | .readSample dv => Sys2Proof.Machine.execReadSample dv s
  | .closeSession => Sys2Proof.Machine.execClose s

end Sys2Proof.Machine
end

