-- ==== Sys2Proof/Machine/Sequence.lean ====
section
/-! DEFINITION. The sequencing of steps (41_session_mode.md R80): what the next input does in IDLE and in BUSY(k). Step.lean
calls it. -/

namespace Sys2Proof.Machine

/-- The accepted word is decoded and its command's accepting step taken, or ILLEGAL_COMMAND answered
(41_session_mode.md R80, 30_encoding.md R53, R54, R63). -/
def acceptWord (w : Word) (s : State) : Out :=
  match decode w with
  | .ok i => exec i s
  | .error _ => .next (s.raise .illegalCommand .noStep)

/-- The answer step of the command in `CUR` (41_session_mode.md R80, "Answer"). -/
def answerStep (s : State) : Out :=
  match s.cur with
  | none => .fault (.noValue .cur)
  | some w =>
    match decode w with
    | .ok i => exec i s
    | .error _ => .fault .phaseMismatch

/-- The block holds: it "has no other step" (41_session_mode.md R80, "Hold"; 60_exceptions.md R125). Assumption log 3. -/
def hold (ph : Phase) : Out :=
  match ph with
  | .idle => .fault .awaitingCommand
  | .busy k => .fault (.awaitingAnswer k)

/-- What the next input does (41_session_mode.md R80, 70_reset_and_hazards.md R130 to R133). An answer is ignored in
IDLE: no transaction is outstanding, so it comes late (assumption log 5). -/
def sequenceStep (s : State) : Out :=
  match s.inputs with
  | [] => hold s.ph
  | .reset :: _ => .next s.resetBlock
  | .lateAnswer _ :: _ => .next s.dropInput
  | .command w :: _ =>
    match s.ph with
    | .idle => acceptWord w (s.accept w)
    | .busy _ => .next s.dropInput
  | .answer _ :: _ =>
    match s.ph with
    | .idle => .next s.dropInput
    | .busy _ => answerStep s

/-- The state in which the host presents `w` next and the block is IDLE, so that the very next step accepts `w`. -/
def State.present (w : Word) (s : State) : State :=
  { s with ph := .idle, bus := none, inputs := .command w :: s.inputs }

end Sys2Proof.Machine
end

