-- ==== Sys2Proof/Machine/Step.lean ====
section
/-! DEFINITION. One step of the block: the acceptance of a command or the answer to one transaction (41_session_mode.md
R80, 70_reset_and_hazards.md R141), reset, or an input that has no effect. -/

namespace Sys2Proof.Machine

/-- One step (41_session_mode.md R80). -/
def step (s : State) : Host.Outcome State Fault Refusal := sequenceStep s

/-- The host presents the word as the next input, and the block is IDLE, so that the very next step accepts it
(assumption log 11). A command has 16 bits, and every bit above `nbits` is 0. -/
def State.withFetchWord (s : State) (nbits w : Nat) : State :=
  s.present (BitVec.ofNat 16 (w % 2 ^ nbits))

end Sys2Proof.Machine
end

