-- ==== Sys2Proof/Machine/Assembler.lean ====
section
/-! DEFINITION. The command-stream syntax (30_encoding.md R61) and its pseudo-instructions (30_encoding.md R62): a line of
text gives one command word or an assembly error. What R61 leaves open (spaces, capitals, the order of the keys, a key given
twice) is in assumption log 15. -/

namespace Sys2Proof.Machine

/-- What a line's mnemonic can be: the eleven commands and the pseudo-instructions of 30_encoding.md R62 that are no
command's own mnemonic. -/
inductive AsmOp where
  | regAddr
  | packCr1
  | unpackCr1
  | packCr2
  | unpackCr2
  | decodeMode
  | getState
  | openSession
  | testMode
  | readSample
  | closeSession
  | cr1Standby
  | cr1Active
  | nop
  deriving DecidableEq, Repr

/-- The keys of 30_encoding.md R61. -/
inductive AsmKey where
  | name
  | ac
  | tm
  | fr
  | os
  | dr
  | img
  | auto
  | raw
  | rst
  | stx
  | sty
  | stz
  | byte
  | bus
  | addr
  | dv
  deriving DecidableEq, Repr

/-- Why a line gives no word. -/
inductive AsmError where
  | unknownMnemonic
  | unknownKey
  | repeatedKey
  | malformed
  /-- A value does not fit its field (30_encoding.md R61). -/
  | doesNotFit
  deriving DecidableEq, Repr

/-- A line after reading: a mnemonic and its keys with their values. -/
structure AsmLine where
  op : AsmOp
  args : List (AsmKey × Nat)
  deriving DecidableEq, Repr

/-! ### From a line to a word -/

/-- The keys a mnemonic takes, each with the width of its field (30_encoding.md R52, R61). -/
def asmKeys : AsmOp → List (AsmKey × Nat)
  | .regAddr => [(.name, 5)]
  | .packCr1 => [(.ac, 1), (.tm, 1), (.fr, 1), (.os, 4), (.dr, 3)]
  | .unpackCr1 => [(.img, 8)]
  | .packCr2 => [(.auto, 1), (.raw, 1), (.rst, 1), (.stx, 1), (.sty, 1), (.stz, 1)]
  | .unpackCr2 => [(.img, 8)]
  | .decodeMode => [(.byte, 8)]
  | .getState => []
  | .openSession => [(.bus, 5), (.addr, 7)]
  | .testMode => []
  | .readSample => [(.dv, 3)]
  | .closeSession => []
  | .cr1Standby => []
  | .cr1Active => []
  | .nop => []

/-- The value of an omitted key: 0, but `os = 8` and `dv = 0b111` (30_encoding.md R61, and the table of R62; that the table's
row for a bare READ_SAMPLE stands beside R62's "one exception" is read in assumption log 15). -/
def asmDefault : AsmKey → Nat
  | .os => 8
  | .dv => 7
  | _ => 0

/-- The value of a key in a line, wherever the key stands in it. DESIGN CHOICE (safe, assumption log 15): 30_encoding.md R61
lists the keys "in the order of the fields of rule R52" and does not say whether a line may give them in another order; the
model takes them in any order. -/
def AsmLine.value (l : AsmLine) (k : AsmKey) : Nat :=
  match l.args.find? (fun a => a.1 = k) with
  | some a => a.2
  | none => asmDefault k

/-- The line's keys are the mnemonic's own. -/
def AsmLine.keysKnown (l : AsmLine) : Bool :=
  l.args.all fun a => (asmKeys l.op).any fun k => k.1 = a.1

/-- No key is given twice (assumption log 15). -/
def AsmLine.keysOnce (l : AsmLine) : Bool :=
  decide (l.args.map Prod.fst).Nodup

/-- Every value fits its field (30_encoding.md R61). -/
def AsmLine.valuesFit (l : AsmLine) : Bool :=
  (asmKeys l.op).all fun k => l.value k.1 < 2 ^ k.2

/-- The command a line stands for, pseudo-instructions expanded (30_encoding.md R61, R62). -/
def AsmLine.instr (l : AsmLine) : Instr :=
  match l.op with
  | .regAddr => .regAddr (BitVec.ofNat 5 (l.value .name))
  | .packCr1 =>
    .packCr1 (BitVec.ofNat 3 (l.value .dr)) (BitVec.ofNat 4 (l.value .os)) (BitVec.ofNat 1 (l.value .fr))
      (BitVec.ofNat 1 (l.value .tm)) (BitVec.ofNat 1 (l.value .ac))
  | .unpackCr1 => .unpackCr1 (BitVec.ofNat 8 (l.value .img))
  | .packCr2 =>
    .packCr2 (BitVec.ofNat 1 (l.value .stz)) (BitVec.ofNat 1 (l.value .sty)) (BitVec.ofNat 1 (l.value .stx))
      (BitVec.ofNat 1 (l.value .rst)) (BitVec.ofNat 1 (l.value .raw)) (BitVec.ofNat 1 (l.value .auto))
  | .unpackCr2 => .unpackCr2 (BitVec.ofNat 8 (l.value .img))
  | .decodeMode => .decodeMode (BitVec.ofNat 8 (l.value .byte))
  | .getState => .getState
  | .openSession => .openSession (BitVec.ofNat 5 (l.value .bus)) (BitVec.ofNat 7 (l.value .addr))
  | .testMode => .testMode
  | .readSample => .readSample (BitVec.ofNat 3 (l.value .dv))
  | .closeSession => .closeSession
  | .cr1Standby => .packCr1 0 8 0 0 0
  | .cr1Active => .packCr1 0 8 0 0 1
  | .nop => .getState

/-- A line's word, or its error: a value that does not fit produces no word; one that fits but is illegal assembles
(30_encoding.md R61). -/
def AsmLine.assemble (l : AsmLine) : Except AsmError Word :=
  if !l.keysKnown then .error .unknownKey
  else if !l.keysOnce then .error .repeatedKey
  else if !l.valuesFit then .error .doesNotFit
  else .ok (encode l.instr)

/-- The line that spells a command out, every key given. -/
def disassemble : Instr → AsmLine
  | .regAddr name => { op := .regAddr, args := [(.name, name.toNat)] }
  | .packCr1 dri osr fr tm ac =>
    { op := .packCr1,
      args := [(.ac, ac.toNat), (.tm, tm.toNat), (.fr, fr.toNat), (.os, osr.toNat), (.dr, dri.toNat)] }
  | .unpackCr1 img => { op := .unpackCr1, args := [(.img, img.toNat)] }
  | .packCr2 stz sty stx rst raw auto =>
    { op := .packCr2,
      args := [(.auto, auto.toNat), (.raw, raw.toNat), (.rst, rst.toNat), (.stx, stx.toNat), (.sty, sty.toNat),
        (.stz, stz.toNat)] }
  | .unpackCr2 img => { op := .unpackCr2, args := [(.img, img.toNat)] }
  | .decodeMode byte => { op := .decodeMode, args := [(.byte, byte.toNat)] }
  | .getState => { op := .getState, args := [] }
  | .openSession bus addr => { op := .openSession, args := [(.bus, bus.toNat), (.addr, addr.toNat)] }
  | .testMode => { op := .testMode, args := [] }
  | .readSample dv => { op := .readSample, args := [(.dv, dv.toNat)] }
  | .closeSession => { op := .closeSession, args := [] }

/-! ### From text to a line -/

/-- A space or a tab. -/
def isBlankChar (c : Char) : Bool := c = ' ' || c = '\t'

/-- The text without the blanks around it. -/
def trimChars (cs : List Char) : List Char :=
  ((cs.dropWhile isBlankChar).reverse.dropWhile isBlankChar).reverse

/-- The text cut at every `sep`. -/
def cutAt (sep : Char) : List Char → List (List Char)
  | [] => [[]]
  | c :: cs =>
    match cutAt sep cs with
    | [] => [[c]]
    | p :: ps => if c = sep then [] :: p :: ps else (c :: p) :: ps

/-- A digit of base 16 or less. -/
def digitValue (c : Char) : Option Nat :=
  if '0' ≤ c ∧ c ≤ '9' then some (c.toNat - '0'.toNat)
  else if 'a' ≤ c ∧ c ≤ 'f' then some (c.toNat - 'a'.toNat + 10)
  else if 'A' ≤ c ∧ c ≤ 'F' then some (c.toNat - 'A'.toNat + 10)
  else none

/-- The digits `cs` in the base, after `acc`. -/
def digitsFrom (base acc : Nat) : List Char → Option Nat
  | [] => some acc
  | c :: cs =>
    match digitValue c with
    | none => none
    | some d => if d < base then digitsFrom base (acc * base + d) cs else none

/-- A number: decimal, `0x` hexadecimal or `0b` binary (30_encoding.md R61). -/
def parseNumber : List Char → Option Nat
  | [] => none
  | ['0', 'x'] => none
  | ['0', 'b'] => none
  | '0' :: 'x' :: cs => digitsFrom 16 0 cs
  | '0' :: 'b' :: cs => digitsFrom 2 0 cs
  | cs => digitsFrom 10 0 cs

/-- A register's datasheet name (20_memory.md R30). -/
def regName : Reg → String
  | .drStatus => "DR_STATUS"
  | .outXMsb => "OUT_X_MSB"
  | .outXLsb => "OUT_X_LSB"
  | .outYMsb => "OUT_Y_MSB"
  | .outYLsb => "OUT_Y_LSB"
  | .outZMsb => "OUT_Z_MSB"
  | .outZLsb => "OUT_Z_LSB"
  | .whoAmI => "WHO_AM_I"
  | .sysmod => "SYSMOD"
  | .offXMsb => "OFF_X_MSB"
  | .offXLsb => "OFF_X_LSB"
  | .offYMsb => "OFF_Y_MSB"
  | .offYLsb => "OFF_Y_LSB"
  | .offZMsb => "OFF_Z_MSB"
  | .offZLsb => "OFF_Z_LSB"
  | .dieTemp => "DIE_TEMP"
  | .ctrlReg1 => "CTRL_REG1"
  | .ctrlReg2 => "CTRL_REG2"

/-- The register of a name. -/
def parseReg (cs : List Char) : Option Reg :=
  allRegs.find? fun r => (regName r).toList = cs

/-- The value of a key: a number, or for `name=` also a datasheet name (30_encoding.md R61). -/
def parseValue (k : AsmKey) (cs : List Char) : Option Nat :=
  match parseNumber cs with
  | some n => some n
  | none => if k = .name then (parseReg cs).map fun r => r.addr.toNat else none

/-- The spelling of each mnemonic (30_encoding.md R51, R62). -/
def mnemonicTable : List (String × AsmOp) :=
  [("REG_ADDR", .regAddr), ("PACK_CR1", .packCr1), ("UNPACK_CR1", .unpackCr1), ("PACK_CR2", .packCr2),
   ("UNPACK_CR2", .unpackCr2), ("DECODE_MODE", .decodeMode), ("GET_STATE", .getState), ("OPEN", .openSession),
   ("TEST_MODE", .testMode), ("READ_SAMPLE", .readSample), ("CLOSE", .closeSession), ("CR1_STANDBY", .cr1Standby),
   ("CR1_ACTIVE", .cr1Active), ("NOP", .nop)]

/-- The spelling of each key (30_encoding.md R61). -/
def keyTable : List (String × AsmKey) :=
  [("name", .name), ("ac", .ac), ("tm", .tm), ("fr", .fr), ("os", .os), ("dr", .dr), ("img", .img), ("auto", .auto),
   ("raw", .raw), ("rst", .rst), ("stx", .stx), ("sty", .sty), ("stz", .stz), ("byte", .byte), ("bus", .bus),
   ("addr", .addr), ("dv", .dv)]

/-- A spelling looked up in a table. -/
def lookUp {α : Type} (table : List (String × α)) (cs : List Char) : Option α :=
  (table.find? fun e => e.1.toList = cs).map Prod.snd

/-- One `key=value`. -/
def parseArg (cs : List Char) : Except AsmError (AsmKey × Nat) :=
  match cutAt '=' cs with
  | [k, v] =>
    match lookUp keyTable (trimChars k) with
    | none => .error .unknownKey
    | some key =>
      match parseValue key (trimChars v) with
      | none => .error .malformed
      | some n => .ok (key, n)
  | _ => .error .malformed

/-- The pieces of an argument list, in order. -/
def parseArgs : List (List Char) → Except AsmError (List (AsmKey × Nat))
  | [] => .ok []
  | p :: ps =>
    match parseArg p with
    | .error e => .error e
    | .ok a =>
      match parseArgs ps with
      | .error e => .error e
      | .ok rest => .ok (a :: rest)

/-- A line of text: `MNEMONIC [key=value, ...] [; comment]` (30_encoding.md R61). -/
def parseLine (text : List Char) : Except AsmError AsmLine :=
  let code := trimChars (text.takeWhile fun c => c ≠ ';')
  let word := code.takeWhile fun c => !isBlankChar c
  let rest := trimChars (code.dropWhile fun c => !isBlankChar c)
  match lookUp mnemonicTable word with
  | none => .error .unknownMnemonic
  | some op =>
    if rest = [] then .ok { op := op, args := [] }
    else
      match parseArgs (cutAt ',' rest) with
      | .error e => .error e
      | .ok args => .ok { op := op, args := args }

/-- Assemble a line of text (30_encoding.md R61). -/
def assembleText (text : String) : Except AsmError Word :=
  match parseLine text.toList with
  | .error e => .error e
  | .ok l => l.assemble

end Sys2Proof.Machine
end

