-- ==== Sys2Proof/Machine/Command.lean ====
section
/-! DEFINITION. The command-level view of 41_session_mode.md R81: `exec(S, CMD, answers)` as ONE function, written from
the pseudocode of the command rules (R82 to R92, R95, R100) and not from the steps of `exec`. That the steps unfold it
is a statement about the model, not a definition. -/

namespace Sys2Proof.Machine

/-- How a part of a command ends, given the answers it consumes. -/
inductive CmdRes (α : Type) where
  /-- It returns a value, leaving a state and the answers not yet consumed. -/
  | ret (a : α) (s : State) (rest : List Answer)
  /-- It raises `e` at step `k` (00_scope.md R11). -/
  | raised (e : Status) (k : StepId) (s : State) (rest : List Answer)
  /-- No answer comes to transaction `t` of step `k` (60_exceptions.md R125). -/
  | held (k : StepId) (t : Transaction) (s : State)
  /-- An answer is not of the shape of 20_memory.md R35, or an item read is ⊥. -/
  | stops

/-- A part of a command. -/
abbrev Cmd (α : Type) := State → List Answer → CmdRes α

/-- First `c`, then `f` with its value. -/
def cmdThen {α β : Type} (c : Cmd α) (f : α → Cmd β) : Cmd β := fun s as =>
  match c s as with
  | .ret a s' rest => f a s' rest
  | .raised e k s' rest => .raised e k s' rest
  | .held k t s' => .held k t s'
  | .stops => .stops

/-- Return a value. -/
def cmdPure {α : Type} (a : α) : Cmd α := fun s as => .ret a s as

/-- Write state. -/
def cmdWrite (f : State → State) : Cmd Unit := fun s as => .ret () (f s) as

/-- `raise e(k)`. -/
def cmdRaise {α : Type} (e : Status) (k : StepId) : Cmd α := fun s as => .raised e k s as

/-- Issue `t` with step `k` and wait for its answer, whatever it is. -/
def cmdTransact (k : StepId) (t : Transaction) : Cmd Answer := fun s as =>
  match as with
  | [] => .held k t s
  | a :: rest => if t.admits a then .ret a { s with transcript := s.transcript ++ [(t, a)] } rest else .stops

/-- `T(k) := t`: an answer FAIL raises `IoError(k)` (00_scope.md R9). -/
def cmdTx (k : StepId) (t : Transaction) : Cmd Answer :=
  cmdThen (cmdTransact k t) fun a => if a = .fail then cmdRaise .ioError k else cmdPure a

/-- `TestMode(kw, kr)` (41_session_mode.md R82). -/
def cmdTestMode (kw kr : StepId) : Cmd (Mode × Byte) := fun s as =>
  (cmdThen (cmdTx kw (addrWrite (modeRegAddr s.params.modeReg))) fun _ =>
    cmdThen (cmdTx kr (.read 1)) fun a =>
      match a with
      | .okBytes [b] =>
        cmdThen (cmdWrite (State.setCachedMode (decodeMode b))) fun _ => cmdPure (decodeMode b, b)
      | _ => fun _ _ => .stops) s as

/-- Configure, step 2 (41_session_mode.md R88). -/
def cmdQuiesce : Cmd Unit := fun s as =>
  match s.m0 with
  | none => .stops
  | some m =>
    if m = .standby then .ret () s as
    else
      (cmdThen (cmdTx .cr1StandbyWrite (regWrite Reg.ctrlReg1.addr cr1StandbyImg)) fun _ =>
        cmdThen (cmdTx .cr2Write (regWrite Reg.ctrlReg2.addr (cr2Img s.params))) fun _ => cmdPure ()) s as

/-- Configure (41_session_mode.md R87 to R90), giving the confirmed mode. -/
def cmdConfigure : Cmd Mode :=
  cmdThen (cmdTestMode .modeAddrWrite .modeRead) fun mb =>
    cmdThen (cmdWrite (State.setM0 mb.1)) fun _ =>
      cmdThen cmdQuiesce fun _ =>
        cmdThen (cmdTx .cr1ActiveWrite (regWrite Reg.ctrlReg1.addr cr1ActiveImg)) fun _ =>
          cmdThen (cmdTestMode .confirmAddrWrite .confirmRead) fun mb' =>
            if mb'.1 = .activeRaw ∨ mb'.1 = .activeCorrected then cmdPure mb'.1
            else cmdRaise .configError .confirmMode

/-- OPEN up to the commit (41_session_mode.md R84 to R91), giving the response's DATA. -/
def cmdOpen (bus : BusId) (addr : SlaveAddr) : Cmd Data :=
  cmdThen (cmdWrite (State.setBusId bus)) fun _ =>
    cmdThen (cmdTx .acquire (.acquire bus)) fun _ =>
      cmdThen (cmdWrite (State.setDevAddr addr)) fun _ =>
        cmdThen (cmdTx .bind (.bind addr)) fun _ =>
          cmdThen cmdConfigure fun m =>
            cmdThen (cmdWrite State.openSession) fun _ => cmdPure (modeData m)

/-- TEST_MODE in an open session (41_session_mode.md R83). -/
def cmdTestModeCommand : Cmd Data :=
  cmdThen (cmdTestMode .modeAddrWrite .modeRead) fun mb => cmdPure (testModeData mb.1 mb.2)

/-- READ_SAMPLE in an open session, every destination supplied (42_sample_close.md R95). -/
def cmdReadSample : Cmd Data :=
  cmdThen (cmdTx .sampleAddrWrite (addrWrite Reg.outXMsb.addr)) fun _ =>
    cmdThen (cmdTx .sampleRead (.read Config.burstLen)) fun a =>
      match a with
      | .okBytes [b0, b1, b2, b3, b4, b5] =>
        let burst : Burst := { b0 := b0, b1 := b1, b2 := b2, b3 := b3, b4 := b4, b5 := b5 }
        cmdThen (cmdWrite (State.setWb burst)) fun _ => cmdPure (sampleData (reassemble burst))
      | _ => fun _ _ => .stops

/-- CLOSE in an open session (42_sample_close.md R100): the state updates come before the error. -/
def cmdClose : Cmd Data :=
  cmdThen (cmdTransact .release .release) fun r =>
    cmdThen (cmdWrite State.clearSession) fun _ =>
      if r = .fail then cmdRaise .ioError .release else cmdPure 0

/-- The outcome of a whole command (41_session_mode.md R81). -/
inductive CommandView where
  /-- The final state, which holds the response and the transcript, and the answers not consumed. -/
  | completes (t : State) (rest : List Answer)
  /-- A hold at some BUSY(k), no answer left. -/
  | holds (t : State)
  /-- Outside the spec: a misshapen answer, or an item read that is ⊥. -/
  | stops
  deriving DecidableEq, Repr

/-- A command with no cleanup ends: respond OK, or with the error raised. -/
def finishPlain (r : CmdRes Data) : CommandView :=
  match r with
  | .ret d s rest => .completes (s.done d) rest
  | .raised e k s rest => .completes (s.raise e k) rest
  | .held k t s => .holds (s.issue k t)
  | .stops => .stops

/-- OPEN ends: respond OK, or clean up (41_session_mode.md R92). -/
def finishOpen (r : CmdRes Data) : CommandView :=
  match r with
  | .ret d s rest => .completes (s.done d) rest
  | .raised e k s rest =>
    if k = .acquire then .completes (s.clearSession.raise e k) rest
    else
      match cmdTransact .release .release s rest with
      | .ret _ s' rest' => .completes (s'.clearSession.raise e k) rest'
      | .raised _ _ _ _ => .stops
      | .held k' t s' => .holds { s'.issue k' t with pendErr := some { status := e, step := k } }
      | .stops => .stops
  | .held k t s => .holds (s.issue k t)
  | .stops => .stops

/-- A command that completes in the step that accepts it (40_register_map.md R65). -/
def ofStep (o : Out) (as : List Answer) : CommandView :=
  match o with
  | .next t => .completes t as
  | .fault _ => .stops
  | .refused _ => .stops

/-- The command `i` in the accepted state `s`, given the answers: the checks of 60_exceptions.md R114, then the command's
transactions. -/
def commandView (i : Instr) (s : State) (as : List Answer) : CommandView :=
  match i with
  | .openSession bus addr =>
    if s.sess = .opened then .completes (s.raise .alreadyOpen .noStep) as
    else finishOpen (cmdOpen bus addr s as)
  | .testMode =>
    if s.sess = .closed then .completes (s.raise .notOpen .noStep) as else finishPlain (cmdTestModeCommand s as)
  | .readSample dv =>
    if !allDestinations dv then .completes (s.raise .invalidArgument .noStep) as
    else if s.sess = .closed then .completes (s.raise .notOpen .noStep) as
    else finishPlain (cmdReadSample s as)
  | .closeSession =>
    if s.sess = .closed then .completes (s.raise .notOpen .noStep) as else finishPlain (cmdClose s as)
  | .regAddr name => ofStep (execRegAddr name s) as
  | .packCr1 dri osr fr tm ac => ofStep (execPackCr1 dri osr fr tm ac s) as
  | .unpackCr1 img => ofStep (execUnpackCr1 img s) as
  | .packCr2 stz sty stx rst raw auto => ofStep (execPackCr2 stz sty stx rst raw auto s) as
  | .unpackCr2 img => ofStep (execUnpackCr2 img s) as
  | .decodeMode byte => ofStep (execDecodeMode byte s) as
  | .getState => ofStep (execGetState s) as

/-- `exec(S, CMD, answers)` of 41_session_mode.md R81: accept the word in IDLE and run its command to the end. -/
def runCommand (s : State) (w : Word) (as : List Answer) : CommandView :=
  match decode w with
  | .ok i => commandView i { s.accept w with inputs := [] } as
  | .error _ => .completes ({ s.accept w with inputs := [] }.raise .illegalCommand .noStep) as

end Sys2Proof.Machine
end

