-- ==== Sys2Proof/Machine/HostSide.lean ====
section
/-! DEFINITION. What the host does with the block: taking a sample (42_sample_close.md R97, 70_reset_and_hazards.md R133),
storing it in its own memory (42_sample_close.md R99), and the end of a run with its observation (70_reset_and_hazards.md
R142). These rules bind the host, not the block. -/

namespace Sys2Proof.Machine

/-- The sample a response to READ_SAMPLE carries: only a response with STATUS = OK gives one (42_sample_close.md R97). -/
def Response.sample (r : Response) : Option Sample :=
  if r.status = .ok then
    some { x := r.data.extractLsb' 0 16, y := r.data.extractLsb' 16 16, z := r.data.extractLsb' 32 16 }
  else none

/-- The two bytes of a sample value, the one at the lower address first (42_sample_close.md R99). -/
def hostBytes (order : ByteOrder) (v : Word) : Byte × Byte :=
  match order with
  | .little => (v.extractLsb' 0 8, v.extractLsb' 8 8)
  | .big => (v.extractLsb' 8 8, v.extractLsb' 0 8)

/-- A sample value stored at byte address `a` of the host's memory (42_sample_close.md R99). -/
def storeSample (order : ByteOrder) (a : Nat) (v : Word) : List Host.Cell :=
  [(a, (hostBytes order v).1), (a + 1, (hostBytes order v).2)]

/-- The host's duty 3 of 70_reset_and_hazards.md R133: the block is IDLE, and has answered the word before, if any was
accepted since reset. Nothing in the block enforces it (41_session_mode.md R80, "Busy port"). -/
def State.hostMayPresent (s : State) : Bool :=
  s.ph = .idle && (s.rspValid || s.cur = none)

/-- The input is a command word. -/
def Input.isCommand : Input → Bool
  | .command _ => true
  | .answer _ => false
  | .lateAnswer _ => false
  | .reset => false

/-- A run is over: the host has presented its last word, `PH = IDLE` and `RSP_VALID = 1` (70_reset_and_hazards.md R142). -/
def State.runOver (s : State) : Bool :=
  !(s.inputs.any Input.isCommand) && s.ph = .idle && s.rspValid

/-- What a run shows (70_reset_and_hazards.md R142). -/
structure Observation where
  responses : List Response
  transcript : List (Transaction × Answer)
  sess : Session
  cachedMode : Mode
  deriving DecidableEq, Repr

/-- The observation of a run that is over (70_reset_and_hazards.md R142). -/
def State.observation (s : State) : Option Observation :=
  if s.runOver then
    some { responses := s.responses, transcript := s.transcript, sess := s.sess, cachedMode := s.cachedMode }
  else none

end Sys2Proof.Machine
end

