-- ==== Sys2Proof/Safety.lean ====
section
/-! DEFINITION. What claims say of a state: the invariant of the block, the discipline of its bus transactions
(20_memory.md R31, R36), the quiesce-before-activate order (41_session_mode.md R93), and the words in which single steps
and whole commands are described. -/

namespace Sys2Proof.Machine

/-! ### Describing steps -/

/-- `n` steps of the machine. -/
def runSteps (n : Nat) (s : State) : Out := Host.Core.run Sys2Proof.core n s

/-- The block is IDLE, with no transaction outstanding and no error pending: an IDLE state that meets `Inv`. -/
def State.Quiet (s : State) : Prop := s.ph = .idle ∧ s.bus = none ∧ s.pendErr = none

/-- Only the response is written (10_state.md R26): `RSP`, `RSP_VALID`, and the list of responses. -/
def State.answered (r : Response) (s : State) : State :=
  { s with rsp := some r, rspValid := true, responses := s.responses ++ [r] }

/-- The block waits on transaction `t` of step `k`, and the answer `a` comes next, with `rest` after it. -/
def State.Awaits (k : StepId) (t : Transaction) (a : Answer) (rest : List Input) (s : State) : Prop :=
  s.ph = .busy k ∧ s.bus = some t ∧ s.inputs = .answer a :: rest

/-- The answer is consumed and its pair joins the transcript (20_memory.md R44). -/
def State.observed (t : Transaction) (a : Answer) (rest : List Input) (s : State) : State :=
  { s with inputs := rest, transcript := s.transcript ++ [(t, a)] }

/-- The next transaction is issued. -/
def State.waiting (k : StepId) (t : Transaction) (s : State) : State :=
  { s with ph := .busy k, bus := some t }

/-- The command ends with the response `r`, and the block is IDLE again (41_session_mode.md R80). -/
def State.completed (r : Response) (s : State) : State :=
  { s with
    rsp := some r, rspValid := true, ph := .idle, bus := none, pendErr := none, responses := s.responses ++ [r] }

/-- The session is CLOSED, with no binding and no belief (10_state.md R21 to R23). -/
def State.sessionClosed (s : State) : State :=
  { s with sess := .closed, busId := none, devAddr := none, cachedMode := .noBelief }

/-- A response with STATUS = OK. -/
def okResponse (d : Data) : Response := { status := .ok, step := .noStep, data := d }

/-- An error response (60_exceptions.md R112). -/
def errorResponse (e : Status) (k : StepId) : Response := { status := e, step := k, data := 0 }

/-- The state with the command word accepted (41_session_mode.md R80): the word consumed, with `rest` after it. -/
def State.accepted (w : Word) (rest : List Input) (s : State) : State :=
  { s with inputs := rest, cur := some w, rspValid := false, wb := none, m0 := none }

/-- The command is one of the Register Map unit (40_register_map.md R65). -/
def isRmu : Instr → Bool
  | .regAddr _ => true
  | .packCr1 _ _ _ _ _ => true
  | .unpackCr1 _ => true
  | .packCr2 _ _ _ _ _ _ => true
  | .unpackCr2 _ => true
  | .decodeMode _ => true
  | .getState => true
  | .openSession _ _ => false
  | .testMode => false
  | .readSample _ => false
  | .closeSession => false

/-! ### The invariant -/

/-- The command is OPEN. -/
def isOpen : Instr → Bool
  | .openSession _ _ => true
  | _ => false

/-- What holds while the block waits on step `k` of command `i` (41_session_mode.md R80, R84 to R92). -/
structure BusyWith (s : State) (k : StepId) (i : Instr) : Prop where
  /-- `CUR` is the word of the command. -/
  cur : s.cur = some (encode i)
  /-- The command has legal arguments: it would have been refused otherwise (60_exceptions.md R114). -/
  legal : i.wellFormed = true
  /-- The command has the step, and its transaction is on the bus port. -/
  port : ∃ t, stepTransaction s.params i k = some t ∧ s.bus = some t
  /-- No response is presented while a command is executing. -/
  noResponse : s.rspValid = false
  /-- OPEN runs in a CLOSED session, every other session command in an OPEN one (60_exceptions.md R120). -/
  session : s.sess = .opened ↔ isOpen i = false
  /-- OPEN has set the binding as far as it has come (41_session_mode.md R85, R86). -/
  binding : ∀ bus addr, i = .openSession bus addr →
    s.busId = some bus ∧ (k ≠ .acquire → s.devAddr = some addr)
  /-- An error is pending only in OPEN's cleanup, and always there; it is one OPEN can raise after Acquire. -/
  pending : (isOpen i = true ∧ k = .release) ↔ s.pendErr ≠ none
  pendingLegal : ∀ e, s.pendErr = some e →
    Response.legal { status := e.status, step := e.step, data := 0 } = true ∧ e.status ≠ .ok

/-- The invariant of the block's state. -/
structure Inv (s : State) : Prop where
  /-- The parameters are legal (00_scope.md R6). -/
  params : s.params.wellFormed = true
  /-- An IDLE block waits on nothing and has no error pending. -/
  idle : s.ph = .idle → s.bus = none ∧ s.pendErr = none
  /-- An IDLE block with no session has no binding and no belief (10_state.md R22, R23). -/
  closed : s.ph = .idle → s.sess = .closed → s.busId = none ∧ s.devAddr = none ∧ s.cachedMode = .noBelief
  /-- A session has a binding and a belief (10_state.md R22, 41_session_mode.md R91). -/
  opened : s.sess = .opened → s.busId ≠ none ∧ s.devAddr ≠ none ∧ s.cachedMode ≠ .noBelief
  /-- A BUSY block waits on a step of the session command in `CUR`. -/
  busy : ∀ k, s.ph = .busy k → ∃ i, BusyWith s k i
  /-- `RSP_VALID` says that `RSP` holds a response (10_state.md R26). -/
  valid : s.rspValid = true → s.rsp ≠ none
  /-- Every response has the shape of 30_encoding.md R55 and 60_exceptions.md R110. -/
  response : ∀ r, s.rsp = some r → r.legal = true

/-! ### The order of bus transactions -/

/-- What the transcript says of the bus: nothing acquired, acquired, or bound (20_memory.md R36). -/
inductive BusPhase where
  | free
  | acquired
  | bound
  deriving DecidableEq, Repr

/-- One transaction with its answer, in a phase; `none` where 20_memory.md R36 forbids it. A block reset releases nothing
(70_reset_and_hazards.md R131), so an acquire may come in any phase. -/
def busNext (p : BusPhase) (t : Transaction) (a : Answer) : Option BusPhase :=
  match t with
  | .acquire _ => some (if a = .fail then .free else .acquired)
  | .bind _ => if p = .acquired then some (if a = .fail then .acquired else .bound) else none
  | .write _ => if p = .bound then some .bound else none
  | .read _ => if p = .bound then some .bound else none
  | .release => if p = .free then none else some .free

/-- The phase a transcript leads to from `p`; `none` if it breaks 20_memory.md R36. -/
def busPhaseFrom (p : BusPhase) : List (Transaction × Answer) → Option BusPhase
  | [] => some p
  | (t, a) :: rest =>
    match busNext p t a with
    | none => none
    | some q => busPhaseFrom q rest

/-- The phase that the block's own state says the bus is in; `none` where it says nothing (no session, IDLE). -/
def State.knownBusPhase (s : State) : Option BusPhase :=
  match s.ph with
  | .idle => if s.sess = .opened then some .bound else none
  | .busy .acquire => none
  | .busy .bind => some .acquired
  | .busy .release =>
    match s.pendErr with
    | some e => if e.step = .bind then some .acquired else some .bound
    | none => some .bound
  | .busy _ => some .bound

/-- The transcript keeps 20_memory.md R36, and leads where the block's state says the bus is. -/
def BusDiscipline (s : State) : Prop :=
  ∃ p, busPhaseFrom .free s.transcript = some p ∧ ∀ q, s.knownBusPhase = some q → p = q

/-- The register addresses the block ever issues (20_memory.md R31). -/
def issuedAddress (p : Params) (a : Byte) : Bool :=
  a = 0x01 || a = 0x10 || a = 0x11 || a = modeRegAddr p.modeReg

/-! ### Quiesce before activate -/

/-- The force-Standby write, answered OK (41_session_mode.md R88). -/
def standbyWritten : Transaction × Answer := (regWrite 0x10 0x18, .ok)

/-- The CR2 write, answered OK (41_session_mode.md R88). -/
def cr2Written (p : Params) : Transaction × Answer := (regWrite 0x11 (cr2Img p), .ok)

/-- While OPEN waits on the CR2 write, the transcript ends with the force-Standby write; while it waits on the activate
write after a mode other than STANDBY, it ends with both (41_session_mode.md R93). -/
structure QuiesceOrder (s : State) : Prop where
  cr2 : s.ph = .busy .cr2Write → ∃ before, s.transcript = before ++ [standbyWritten]
  activate : s.ph = .busy .cr1ActiveWrite →
    s.m0 = some .standby ∨ ∃ before, s.transcript = before ++ [standbyWritten, cr2Written s.params]

end Sys2Proof.Machine
end

