-- ==== Sys2Proof/Certificates/Slice0/Obligations.lean ====
section
/-! DEFINITION. The statements of the first slice, from the spec's numbered rules. `exec i s` is the step of command `i`:
its accepting step when `PH = IDLE` (the word then stands in `CUR`), its answer step when `PH = BUSY(k)`. A statement whose
conclusion is `exec i s = .next {record update of s}` is also the frame: what the update does not name is unchanged. -/

open Sys2Proof Sys2Proof.Machine

/-! ### Encoding -/

/-- 30_encoding.md R64 (an inference the spec marks as derived): decoding the word of a command gives the command, with
every field at every value. -/
def Obligations.DecodeInvertsEncode : Prop :=
  ∀ i : Instr, decode (encode i) = .ok i

/-- 30_encoding.md R63, R64 (derived): a word that decodes is the word of what it decodes to, so no bit of it is ignored. -/
def Obligations.EncodeInvertsDecode : Prop :=
  ∀ (w : Word) (i : Instr), decode w = .ok i → encode i = w

/-- 30_encoding.md R63, last sentence: a word is a command if and only if `(CMD & mask) == match` for the command's row. -/
def Obligations.WordIsCommandIffItsRowCoversIt : Prop :=
  (∀ (w : Word) (i : Instr), decode w = .ok i → i.row ∈ opcodeTable ∧ i.row.covers w = true) ∧
  ∀ (w : Word) (r : OpRow), r ∈ opcodeTable → r.covers w = true → ∃ i, decode w = .ok i ∧ i.row = r

/-- 30_encoding.md R53, R54, R63: a word is rejected for its opcode exactly when the opcode is 0x0 or 0xC to 0xF, and for
its argument exactly when the opcode is assigned and the word is no command's. -/
def Obligations.WordsAreRejectedByName : Prop :=
  (∀ w : Word, decode w = .error .reservedOpcode ↔ opcOf w = 0 ∨ 0xC ≤ opcOf w) ∧
  ∀ w : Word, decode w = .error .reservedArgument ↔ ¬ (opcOf w = 0 ∨ 0xC ≤ opcOf w) ∧ ∀ i, encode i ≠ w

/-- 95_test_vectors.md sections 2.1 to 2.6: one word of each command, and words that are none. -/
def Obligations.SpecWordsDecode : Prop :=
  decode 0x1010 = .ok (.regAddr 16) ∧ decode 0x238F = .ok (.packCr1 7 1 1 1 1) ∧
  decode 0x3019 = .ok (.unpackCr1 0x19) ∧ decode 0x4002 = .ok (.packCr2 0 0 0 0 1 0) ∧
  decode 0x50FF = .ok (.unpackCr2 0xFF) ∧ decode 0x60FE = .ok (.decodeMode 0xFE) ∧ decode 0x7000 = .ok .getState ∧
  decode 0x808E = .ok (.openSession 1 0x0E) ∧ decode 0x9000 = .ok .testMode ∧ decode 0xA007 = .ok (.readSample 7) ∧
  decode 0xB000 = .ok .closeSession ∧ decode 0x0000 = .error .reservedOpcode ∧ decode 0xC000 = .error .reservedOpcode ∧
  decode 0x2400 = .error .reservedArgument ∧ decode 0xA008 = .error .reservedArgument

/-- 30_encoding.md R64 (derived) with R61: the line that spells a command out assembles to a word that decodes to the
command, and a line with a value that does not fit its field gives no word. -/
def Obligations.AssemblyRoundTrip : Prop :=
  (∀ i : Instr, ∃ w, (disassemble i).assemble = .ok w ∧ decode w = .ok i) ∧
  ∀ (l : AsmLine) (k : AsmKey) (n : Nat), (k, n) ∈ asmKeys l.op → 2 ^ n ≤ l.value k → ∀ w, l.assemble ≠ .ok w

/-- 30_encoding.md R62: the rows of its table with their words. PACK_CR1 without `os` has ratio 8: with the keys ac, tm, fr and
dr all given, the ratio stands beside their values; with any other keys, or none, whatever word the line assembles to has it.
An omitted key is 0 but for that `os` and for the `dv` of the table's READ_SAMPLE row. -/
def Obligations.PseudoInstructionsExpand : Prop :=
  (AsmLine.assemble { op := .readSample, args := [] } = .ok 0xA007 ∧ decode 0xA007 = .ok (.readSample 0b111)) ∧
  (∀ a : BitVec 7,
    AsmLine.assemble { op := .openSession, args := [(.addr, a.toNat)] } = .ok (0x8000 ||| a.setWidth 16) ∧
    decode (0x8000 ||| a.setWidth 16) = .ok (.openSession 0 a)) ∧
  (AsmLine.assemble { op := .cr1Standby, args := [] } = .ok 0x2040 ∧ decode 0x2040 = .ok (.packCr1 0 8 0 0 0)) ∧
  (AsmLine.assemble { op := .cr1Active, args := [] } = .ok 0x2041 ∧ decode 0x2041 = .ok (.packCr1 0 8 0 0 1)) ∧
  (∀ (ac tm fr : Bit) (dri : BitVec 3),
    AsmLine.assemble
      { op := .packCr1, args := [(.ac, ac.toNat), (.tm, tm.toNat), (.fr, fr.toNat), (.dr, dri.toNat)] } =
    .ok (encode (.packCr1 dri 8 fr tm ac))) ∧
  (∀ (args : List (AsmKey × Nat)) (w : Word), (∀ a ∈ args, a.1 ≠ .os) →
    AsmLine.assemble { op := .packCr1, args := args } = .ok w →
    ∃ (dri : BitVec 3) (fr tm ac : Bit), decode w = .ok (.packCr1 dri 8 fr tm ac)) ∧
  (AsmLine.assemble { op := .nop, args := [] } = .ok 0x7000 ∧ decode 0x7000 = .ok .getState) ∧
  ∀ (l : AsmLine) (k : AsmKey), k ≠ .os → k ≠ .dv → (∀ a ∈ l.args, a.1 ≠ k) → l.value k = 0

/-! ### Steps -/

/-- 41_session_mode.md R80: in IDLE the next input's word is accepted (it goes to `CUR`, `RSP_VALID`, `WB` and `M0` are
cleared) and its command runs; in BUSY an answer goes to the command in `CUR`. -/
def Obligations.StepRunsTheDecodedCommand : Prop :=
  (∀ (s : State) (w : Word) (rest : List Input) (i : Instr),
    s.ph = .idle → s.inputs = .command w :: rest → decode w = .ok i → step s = exec i (s.accepted w rest)) ∧
  ∀ (s : State) (k : StepId) (a : Answer) (rest : List Input) (w : Word) (i : Instr),
    s.ph = .busy k → s.inputs = .answer a :: rest → s.cur = some w → decode w = .ok i → step s = exec i s

/-- 30_encoding.md R53, R54 with 41_session_mode.md R80 (assumption log 9: the accepting writes come with every word): a
word that is no command is answered ILLEGAL_COMMAND, with no transaction and no other write. -/
def Obligations.IllegalWordIsOnlyAnswered : Prop :=
  ∀ (s : State) (w : Word) (rest : List Input) (e : DecodeError),
    s.Quiet → s.inputs = .command w :: rest → decode w = .error e →
    step s = .next ((s.accepted w rest).answered (errorResponse .illegalCommand .noStep))

/-- 41_session_mode.md R80 ("Busy port"), 70_reset_and_hazards.md R132: a word presented in BUSY, a late answer, and an
answer in IDLE change nothing (the model consumes the input, assumption log 4 and 5). -/
def Obligations.InputsWithoutEffect : Prop :=
  (∀ (s : State) (w : Word) (rest : List Input) (k : StepId),
    s.ph = .busy k → s.inputs = .command w :: rest → step s = .next { s with inputs := rest }) ∧
  (∀ (s : State) (a : Answer) (rest : List Input),
    s.inputs = .lateAnswer a :: rest → step s = .next { s with inputs := rest }) ∧
  ∀ (s : State) (a : Answer) (rest : List Input),
    s.ph = .idle → s.inputs = .answer a :: rest → step s = .next { s with inputs := rest }

/-- 41_session_mode.md R80 ("Hold"), 60_exceptions.md R125: without an input the block has no step, in IDLE and in BUSY(k). -/
def Obligations.NoStepWithoutAnInput : Prop :=
  (∀ s : State, s.inputs = [] → s.ph = .idle → step s = .fault .awaitingCommand) ∧
  ∀ (s : State) (k : StepId), s.inputs = [] → s.ph = .busy k → step s = .fault (.awaitingAnswer k)

/-- 70_reset_and_hazards.md R130: the value of every state item at reset. -/
def Obligations.ResetValues : Prop :=
  State.reset.sess = .closed ∧ State.reset.busId = none ∧ State.reset.devAddr = none ∧
  State.reset.cachedMode = .noBelief ∧ State.reset.cachedMode.code = 0 ∧ State.reset.ph = .idle ∧
  State.reset.cur = none ∧ State.reset.wb = none ∧ State.reset.m0 = none ∧ State.reset.rsp = none ∧
  State.reset.rspValid = false

/-- 70_reset_and_hazards.md R130, R131, R132: reset is taken in every state, IDLE or BUSY; every state item takes its reset
value, nothing is on the bus port, no transaction joins the transcript and no response is given (that the parameters stay is
assumption log 8). -/
def Obligations.ResetClearsTheBlock : Prop :=
  ∀ (s : State) (rest : List Input), s.inputs = .reset :: rest →
    step s = .next
      { params := s.params, inputs := rest, sess := .closed, busId := none, devAddr := none, cachedMode := .noBelief,
        ph := .idle, cur := none, wb := none, m0 := none, rsp := none, rspValid := false, bus := none, pendErr := none,
        transcript := s.transcript, responses := s.responses }

/-! ### The Register Map unit -/

/-- 40_register_map.md R66, whole: encoding, lookup, refusal, the name codes that are addresses, the example. -/
def Obligations.RegAddrGivesTheAddress : Prop :=
  (∀ (w : Word) (name : BitVec 5), decode w = .ok (.regAddr name) ↔
    w.extractLsb' 12 4 = 0x1 ∧ w.extractLsb' 5 7 = 0 ∧ w.extractLsb' 0 5 = name) ∧
  (∀ (s : State) (name : BitVec 5), s.Quiet → name.toNat ≤ 17 →
    exec (.regAddr name) s = .next (s.answered (okResponse (name.setWidth 48)))) ∧
  (∀ (s : State) (name : BitVec 5), s.Quiet → 17 < name.toNat →
    exec (.regAddr name) s = .next (s.answered (errorResponse .invalidArgument .noStep))) ∧
  (∀ r : Reg, regOfCode (r.addr.setWidth 5) = some r) ∧ regOfCode 0 = some .drStatus ∧
  regOfCode 17 = some .ctrlReg2 ∧ Reg.ctrlReg2.addr = 0x11 ∧
  (encode (.regAddr 16) = 0x1010 ∧ regOfCode 16 = some .ctrlReg1 ∧ Reg.ctrlReg1.addr = 0x10)

/-- 40_register_map.md R70, whole: encoding, the image with each field in its place, the refusal, the corner cases and the
example. -/
def Obligations.PackCr1BuildsTheImage : Prop :=
  (∀ (w : Word) (dri : BitVec 3) (osr : BitVec 4) (fr tm ac : Bit), decode w = .ok (.packCr1 dri osr fr tm ac) ↔
    w.extractLsb' 12 4 = 0x2 ∧ w.extractLsb' 10 2 = 0 ∧ w.extractLsb' 7 3 = dri ∧ w.extractLsb' 3 4 = osr ∧
    w.extractLsb' 2 1 = fr ∧ w.extractLsb' 1 1 = tm ∧ w.extractLsb' 0 1 = ac) ∧
  (∀ (s : State) (dri : BitVec 3) (osr : BitVec 4) (fr tm ac : Bit), s.Quiet →
    osr ≠ 1 → osr ≠ 2 → osr ≠ 4 → osr ≠ 8 →
    exec (.packCr1 dri osr fr tm ac) s = .next (s.answered (errorResponse .invalidArgument .noStep))) ∧
  (∀ (s : State) (dri : BitVec 3) (osr : BitVec 4) (os : BitVec 2) (fr tm ac : Bit), s.Quiet → osr = 1#4 <<< os.toNat →
    ∃ img : Byte,
      exec (.packCr1 dri osr fr tm ac) s = .next (s.answered (okResponse (img.setWidth 48))) ∧
      img.extractLsb' 5 3 = dri ∧ img.extractLsb' 3 2 = os ∧ img.extractLsb' 2 1 = fr ∧ img.extractLsb' 1 1 = tm ∧
      img.extractLsb' 0 1 = ac) ∧
  (∀ s : State, s.Quiet →
    exec (.packCr1 0 0 0 0 0) s = .next (s.answered (errorResponse .invalidArgument .noStep)) ∧
    exec (.packCr1 7 1 1 1 1) s = .next (s.answered (okResponse 0xE7)) ∧
    exec (.packCr1 0 1 0 0 0) s = .next (s.answered (okResponse 0x00)) ∧
    exec (.packCr1 0 8 0 0 0) s = .next (s.answered (okResponse 0x18)) ∧
    exec (.packCr1 0 8 0 0 1) s = .next (s.answered (okResponse 0x19))) ∧
  encode (.packCr1 0 0 0 0 0) = 0x2000 ∧ encode (.packCr1 0 8 0 0 1) = 0x2041

/-- 40_register_map.md R72, whole: encoding, DATA in the PACK_CR1 argument layout, the corner cases and the example. -/
def Obligations.UnpackCr1GivesTheFields : Prop :=
  (∀ (w : Word) (img : Byte), decode w = .ok (.unpackCr1 img) ↔
    w.extractLsb' 12 4 = 0x3 ∧ w.extractLsb' 8 4 = 0 ∧ w.extractLsb' 0 8 = img) ∧
  (∀ (s : State) (img : Byte), s.Quiet → ∃ d : Data,
    exec (.unpackCr1 img) s = .next (s.answered (okResponse d)) ∧
    d.extractLsb' 7 3 = img.extractLsb' 5 3 ∧ d.extractLsb' 3 4 = 1#4 <<< (img.extractLsb' 3 2).toNat ∧
    d.extractLsb' 2 1 = img.extractLsb' 2 1 ∧ d.extractLsb' 1 1 = img.extractLsb' 1 1 ∧
    d.extractLsb' 0 1 = img.extractLsb' 0 1 ∧ d.extractLsb' 10 38 = 0) ∧
  ∀ s : State, s.Quiet →
    exec (.unpackCr1 0x00) s = .next (s.answered (okResponse 0x008)) ∧
    exec (.unpackCr1 0xFF) s = .next (s.answered (okResponse 0x3C7)) ∧
    exec (.unpackCr1 0x19) s = .next (s.answered (okResponse 0x041))

/-- 40_register_map.md R69, R71, R73: `pack_cr1` and `unpack_cr1` are inverse both ways, and UNPACK_CR1 applied to
PACK_CR1's image returns PACK_CR1's ARG[9:0]. -/
def Obligations.Cr1RoundTrip : Prop :=
  (∀ f : Cr1Fields, unpackCr1 (packCr1 f) = f) ∧ (∀ b : Byte, packCr1 (unpackCr1 b) = b) ∧
  (∀ os : BitVec 2, osCode (osRatio os) = some os) ∧
  (∀ (osr : BitVec 4) (os : BitVec 2), osCode osr = some os → osRatio os = osr) ∧
  ∀ (s s' : State) (dri : BitVec 3) (osr : BitVec 4) (fr tm ac : Bit), s.Quiet → s'.Quiet →
    (Instr.packCr1 dri osr fr tm ac).wellFormed = true →
    ∃ img : Byte, exec (.packCr1 dri osr fr tm ac) s = .next (s.answered (okResponse (img.setWidth 48))) ∧
      exec (.unpackCr1 img) s' = .next (s'.answered (okResponse
        (((encode (.packCr1 dri osr fr tm ac)).extractLsb' 0 10).setWidth 48)))

/-- 40_register_map.md R74, R75: the CR2 image has each field in its place, the self-test bits at `P_ST_POS`, every other
bit 0; under the default positions all six fields 1 give 0xB7. -/
def Obligations.PackCr2BuildsTheImage : Prop :=
  (∀ (w : Word) (stz sty stx rst raw auto : Bit), decode w = .ok (.packCr2 stz sty stx rst raw auto) ↔
    w.extractLsb' 12 4 = 0x4 ∧ w.extractLsb' 6 6 = 0 ∧ w.extractLsb' 5 1 = stz ∧ w.extractLsb' 4 1 = sty ∧
    w.extractLsb' 3 1 = stx ∧ w.extractLsb' 2 1 = rst ∧ w.extractLsb' 1 1 = raw ∧ w.extractLsb' 0 1 = auto) ∧
  (∀ (s : State) (stz sty stx rst raw auto : Bit), s.Quiet → s.params.wellFormed = true → ∃ img : Byte,
    exec (.packCr2 stz sty stx rst raw auto) s = .next (s.answered (okResponse (img.setWidth 48))) ∧
    img.extractLsb' 7 1 = auto ∧ img.extractLsb' 5 1 = raw ∧ img.extractLsb' 4 1 = rst ∧
    img.extractLsb' (crBit s.params.stPos.x) 1 = stx ∧ img.extractLsb' (crBit s.params.stPos.y) 1 = sty ∧
    img.extractLsb' (crBit s.params.stPos.z) 1 = stz ∧
    ∀ p : CrPos, p ≠ s.params.stPos.x → p ≠ s.params.stPos.y → p ≠ s.params.stPos.z →
      img.extractLsb' (crBit p) 1 = 0) ∧
  ∀ s : State, s.Quiet → s.params = Params.default →
    exec (.packCr2 0 0 0 0 0 0) s = .next (s.answered (okResponse 0x00)) ∧
    exec (.packCr2 1 1 1 1 1 1) s = .next (s.answered (okResponse 0xB7)) ∧
    exec (.packCr2 0 0 0 0 1 0) s = .next (s.answered (okResponse 0x20))

/-- 40_register_map.md R76: UNPACK_CR2 gives the six fields and ignores the reserved bits. -/
def Obligations.UnpackCr2GivesTheFields : Prop :=
  (∀ (w : Word) (img : Byte), decode w = .ok (.unpackCr2 img) ↔
    w.extractLsb' 12 4 = 0x5 ∧ w.extractLsb' 8 4 = 0 ∧ w.extractLsb' 0 8 = img) ∧
  ∀ (s : State) (img : Byte), s.Quiet → ∃ d : Data,
    exec (.unpackCr2 img) s = .next (s.answered (okResponse d)) ∧
    d.extractLsb' 5 1 = img.extractLsb' (crBit s.params.stPos.z) 1 ∧
    d.extractLsb' 4 1 = img.extractLsb' (crBit s.params.stPos.y) 1 ∧
    d.extractLsb' 3 1 = img.extractLsb' (crBit s.params.stPos.x) 1 ∧
    d.extractLsb' 2 1 = img.extractLsb' 4 1 ∧ d.extractLsb' 1 1 = img.extractLsb' 5 1 ∧
    d.extractLsb' 0 1 = img.extractLsb' 7 1 ∧ d.extractLsb' 6 42 = 0

/-- 40_register_map.md R76, its corner cases (the second is the spec's own inference): `pack_cr2` and `unpack_cr2` round
trip on fields, and on images up to `CR2_MASK`, at every legal `P_ST_POS`. -/
def Obligations.Cr2RoundTrip : Prop :=
  ∀ p : Params, p.wellFormed = true →
    (∀ f : Cr2Fields, unpackCr2 p.stPos (packCr2 p.stPos f) = f) ∧
    ∀ b : Byte, packCr2 p.stPos (unpackCr2 p.stPos b) = b &&& cr2Mask p.stPos

/-- 40_register_map.md R77, whole: the mode code is SYSMOD + 1, bits 7:2 are ignored, and TestMode decodes with the same
function. -/
def Obligations.DecodeModeGivesTheCode : Prop :=
  (∀ (w : Word) (byte : Byte), decode w = .ok (.decodeMode byte) ↔
    w.extractLsb' 12 4 = 0x6 ∧ w.extractLsb' 8 4 = 0 ∧ w.extractLsb' 0 8 = byte) ∧
  (∀ (s : State) (byte : Byte), s.Quiet →
    exec (.decodeMode byte) s = .next (s.answered (okResponse ((byte.extractLsb' 0 2).setWidth 48 + 1)))) ∧
  (∀ b : Byte, (b.extractLsb' 0 2 = 0 ↔ decodeMode b = .standby) ∧ (b.extractLsb' 0 2 = 1 ↔ decodeMode b = .activeRaw) ∧
    (b.extractLsb' 0 2 = 2 ↔ decodeMode b = .activeCorrected) ∧ (b.extractLsb' 0 2 = 3 ↔ decodeMode b = .unknown)) ∧
  (∀ (s : State) (b : Byte) (f : Mode → Byte → State → Out),
    s.testModeByte (.okBytes [b]) f = f (decodeMode b) b { s with cachedMode := decodeMode b }) ∧
  encode (.decodeMode 0xFE) = 0x60FE

/-- 40_register_map.md R78, whole: the word, the masked binding while CLOSED, the fields while OPEN, DATA 0 right after
reset, and the example. -/
def Obligations.GetStateShowsTheSession : Prop :=
  (∀ w : Word, decode w = .ok .getState ↔ w = 0x7000) ∧
  (∀ s : State, s.Quiet → s.sess = .closed → ∃ d : Data,
    exec .getState s = .next (s.answered (okResponse d)) ∧
    d.extractLsb' 0 1 = 0 ∧ d.extractLsb' 1 3 = s.cachedMode.code ∧ d.extractLsb' 4 44 = 0) ∧
  (∀ (s : State) (addr : SlaveAddr) (bus : BusId), s.Quiet → s.sess = .opened → s.devAddr = some addr →
    s.busId = some bus → ∃ d : Data,
    exec .getState s = .next (s.answered (okResponse d)) ∧
    d.extractLsb' 0 1 = 1 ∧ d.extractLsb' 1 3 = s.cachedMode.code ∧ d.extractLsb' 4 7 = addr ∧
    d.extractLsb' 11 5 = bus ∧ d.extractLsb' 16 32 = 0) ∧
  (∃ t, step (State.reset.withFetchWord 16 0x7000) = .next t ∧ t.rsp = some (okResponse 0)) ∧
  ∀ s : State, s.Quiet → s.sess = .opened → s.cachedMode = .activeCorrected → s.devAddr = some 0x0E →
    s.busId = some 0 → exec .getState s = .next (s.answered (okResponse 0x00E7))

/-- 40_register_map.md R65: every Register Map command, in a CLOSED and in an OPEN session alike, completes in its
accepting step and writes nothing but the response; its STATUS is OK for legal arguments and INVALID_ARGUMENT otherwise. -/
def Obligations.RegisterMapCommandsOnlyAnswer : Prop :=
  ∀ (i : Instr) (s : State), isRmu i = true → Inv s → s.ph = .idle →
    ∃ r : Response, exec i s = .next (s.answered r) ∧
      (i.wellFormed = true → r.status = .ok) ∧ (i.wellFormed = false → r = errorResponse .invalidArgument .noStep)

/-- 40_register_map.md R65: the response of a Register Map command other than GET_STATE depends on the command and the
parameters alone, not on the session, the belief or anything the environment answered. -/
def Obligations.RegisterMapIgnoresTheSession : Prop :=
  ∀ (i : Instr) (s s' t : State), isRmu i = true → i ≠ .getState → s.Quiet → s'.Quiet → s.params = s'.params →
    exec i s = .next t → ∃ t', exec i s' = .next t' ∧ t'.rsp = t.rsp

/-- 40_register_map.md R79: the three images Configure writes; the two CR1 images differ in AC alone. -/
def Obligations.ConfigureImages : Prop :=
  cr1StandbyImg = 0x18 ∧ cr1ActiveImg = 0x19 ∧
  cr1StandbyImg = packCr1 { ac := 0, tm := 0, fr := 0, os := 3, dri := 0 } ∧
  cr1ActiveImg = packCr1 { ac := 1, tm := 0, fr := 0, os := 3, dri := 0 } ∧ osRatio 3 = 8 ∧ rateMilliHz 0 = 80000 ∧
  cr1StandbyImg ^^^ cr1ActiveImg = 1 ∧
  (∀ p : Params, cr2Img p = packCr2 p.stPos { auto := 0, raw := p.raw, rst := 0, stx := 0, sty := 0, stz := 0 }) ∧
  (∀ p : Params, p.raw = 0 → cr2Img p = 0x00) ∧ ∀ p : Params, p.raw = 1 → cr2Img p = 0x20

/-- 20_memory.md R30 (addresses: decision D6 of the spec, assumption log 19): the 18 registers are numbered 0 to 17 in the
source's order, and every name code up to 17 names the register of that address. -/
def Obligations.RegisterMapIsNumberedInOrder : Prop :=
  allRegs.length = 18 ∧ (∀ r : Reg, r ∈ allRegs ∧ r.addr.toNat < 18) ∧
  (∀ (name : BitVec 5) (r : Reg), regOfCode name = some r → r.addr.toNat = name.toNat) ∧
  ∀ name : BitVec 5, regOfCode name = none ↔ 17 < name.toNat

/-- 30_encoding.md R55: the fields of the 56-bit response. -/
def Obligations.ResponseWordFields : Prop :=
  ∀ r : Response, r.word.extractLsb' 52 4 = r.status.code ∧ r.word.extractLsb' 48 4 = r.step.code ∧
    r.word.extractLsb' 0 48 = r.data

/-- 60_exceptions.md R110, R111, 30_encoding.md R57, 10_state.md R21: the codes of STATUS, STEP, the modes and the session, and
the transaction of each step of each command. -/
def Obligations.CodesAndStepTransactions : Prop :=
  ([Status.ok, .ioError, .configError, .invalidArgument, .illegalCommand, .notOpen, .alreadyOpen].map Status.code =
    [0, 1, 2, 3, 4, 5, 6]) ∧
  ([StepId.noStep, .acquire, .bind, .modeAddrWrite, .modeRead, .cr1StandbyWrite, .cr2Write, .cr1ActiveWrite,
    .confirmAddrWrite, .confirmRead, .confirmMode, .sampleAddrWrite, .sampleRead, .release].map StepId.code =
    [0, 1, 2, 3, 4, 5, 6, 7, 8, 9, 10, 11, 12, 13]) ∧
  ([Mode.noBelief, .standby, .activeRaw, .activeCorrected, .unknown].map Mode.code = [0, 1, 2, 3, 4]) ∧
  (Session.code .closed = 0 ∧ Session.code .opened = 1) ∧
  (∀ (p : Params) (bus : BusId) (addr : SlaveAddr),
    stepTransaction p (.openSession bus addr) .acquire = some (.acquire bus) ∧
    stepTransaction p (.openSession bus addr) .bind = some (.bind addr) ∧
    stepTransaction p (.openSession bus addr) .modeAddrWrite = some (.write [modeRegAddr p.modeReg]) ∧
    stepTransaction p (.openSession bus addr) .modeRead = some (.read 1) ∧
    stepTransaction p (.openSession bus addr) .cr1StandbyWrite = some (.write [0x10, 0x18]) ∧
    stepTransaction p (.openSession bus addr) .cr2Write = some (.write [0x11, cr2Img p]) ∧
    stepTransaction p (.openSession bus addr) .cr1ActiveWrite = some (.write [0x10, 0x19]) ∧
    stepTransaction p (.openSession bus addr) .confirmAddrWrite = some (.write [modeRegAddr p.modeReg]) ∧
    stepTransaction p (.openSession bus addr) .confirmRead = some (.read 1) ∧
    stepTransaction p (.openSession bus addr) .release = some .release) ∧
  (∀ p : Params, stepTransaction p .testMode .modeAddrWrite = some (.write [modeRegAddr p.modeReg]) ∧
    stepTransaction p .testMode .modeRead = some (.read 1)) ∧
  (∀ (p : Params) (dv : BitVec 3), stepTransaction p (.readSample dv) .sampleAddrWrite = some (.write [0x01]) ∧
    stepTransaction p (.readSample dv) .sampleRead = some (.read 6)) ∧
  ∀ p : Params, stepTransaction p .closeSession .release = some .release

/-! ### OPEN -/

/-- 41_session_mode.md R85, whole: `BUS_ID` is written and the acquire issued; on FAIL the command ends with IO_ERROR at
step 1 and no release is issued. The session check before it is 60_exceptions.md R114. -/
def Obligations.OpenAcquires : Prop :=
  (∀ (s : State) (bus : BusId) (addr : SlaveAddr), s.ph = .idle → s.sess = .closed →
    exec (.openSession bus addr) s = .next ({ s with busId := some bus }.waiting .acquire (.acquire bus))) ∧
  ∀ (s : State) (bus : BusId) (addr : SlaveAddr) (rest : List Input), s.Awaits .acquire (.acquire bus) .fail rest →
    exec (.openSession bus addr) s =
      .next ((s.observed (.acquire bus) .fail rest).sessionClosed.completed (errorResponse .ioError .acquire))

/-- 41_session_mode.md R86, R92: `DEV_ADDR` is written and the bind issued; on FAIL the release follows, with IO_ERROR at step
2 to report after it (`FailedOpenIsCleanedUp` says that it is reported; that it waits in `pendErr` meanwhile is the model's
choice, assumption log 7); and OPEN issues no register access before the bind is answered. -/
def Obligations.OpenBinds : Prop :=
  (∀ (s : State) (bus : BusId) (addr : SlaveAddr) (rest : List Input), s.Awaits .acquire (.acquire bus) .ok rest →
    exec (.openSession bus addr) s =
      .next ({ s.observed (.acquire bus) .ok rest with devAddr := some addr }.waiting .bind (.bind addr))) ∧
  (∀ (s : State) (bus : BusId) (addr : SlaveAddr) (rest : List Input), s.Awaits .bind (.bind addr) .fail rest →
    exec (.openSession bus addr) s =
      .next { (s.observed (.bind addr) .fail rest).waiting .release .release with
        pendErr := some { status := .ioError, step := .bind } }) ∧
  ∀ (s t : State) (bus : BusId) (addr : SlaveAddr), s.ph = .idle ∨ s.ph = .busy .acquire →
    exec (.openSession bus addr) s = .next t →
    (∀ bytes, t.bus ≠ some (.write bytes)) ∧ ∀ n, t.bus ≠ some (.read n)

/-- 41_session_mode.md R82, R87: after the bind, step 1 of Configure writes the address of `P_MODE_REG` and reads one byte. -/
def Obligations.OpenReadsTheMode : Prop :=
  (∀ (s : State) (bus : BusId) (addr : SlaveAddr) (rest : List Input), s.Awaits .bind (.bind addr) .ok rest →
    exec (.openSession bus addr) s =
      .next ((s.observed (.bind addr) .ok rest).waiting .modeAddrWrite (.write [modeRegAddr s.params.modeReg]))) ∧
  ∀ (s : State) (bus : BusId) (addr : SlaveAddr) (m : Byte) (rest : List Input),
    s.Awaits .modeAddrWrite (.write [m]) .ok rest →
    exec (.openSession bus addr) s = .next ((s.observed (.write [m]) .ok rest).waiting .modeRead (.read 1))

/-- 41_session_mode.md R87, R88, R89: the mode read goes to `M0` and `CACHED_MODE`; when it is STANDBY the activate write
follows at once, when it is anything else the force-Standby write, then the CR2 write, then the activate write. -/
def Obligations.OpenQuiescesUnlessStandby : Prop :=
  (∀ (s : State) (bus : BusId) (addr : SlaveAddr) (b : Byte) (rest : List Input),
    s.Awaits .modeRead (.read 1) (.okBytes [b]) rest → decodeMode b = .standby →
    exec (.openSession bus addr) s =
      .next ({ s.observed (.read 1) (.okBytes [b]) rest with cachedMode := .standby, m0 := some .standby }.waiting
        .cr1ActiveWrite (.write [0x10, 0x19]))) ∧
  (∀ (s : State) (bus : BusId) (addr : SlaveAddr) (b : Byte) (rest : List Input),
    s.Awaits .modeRead (.read 1) (.okBytes [b]) rest → decodeMode b ≠ .standby →
    exec (.openSession bus addr) s =
      .next ({ s.observed (.read 1) (.okBytes [b]) rest with
        cachedMode := decodeMode b, m0 := some (decodeMode b) }.waiting .cr1StandbyWrite (.write [0x10, 0x18]))) ∧
  (∀ (s : State) (bus : BusId) (addr : SlaveAddr) (rest : List Input),
    s.Awaits .cr1StandbyWrite (.write [0x10, 0x18]) .ok rest →
    exec (.openSession bus addr) s =
      .next ((s.observed (.write [0x10, 0x18]) .ok rest).waiting .cr2Write (.write [0x11, cr2Img s.params]))) ∧
  ∀ (s : State) (bus : BusId) (addr : SlaveAddr) (rest : List Input),
    s.Awaits .cr2Write (.write [0x11, cr2Img s.params]) .ok rest →
    exec (.openSession bus addr) s =
      .next ((s.observed (.write [0x11, cr2Img s.params]) .ok rest).waiting .cr1ActiveWrite (.write [0x10, 0x19]))

/-- 41_session_mode.md R90, R91: the confirm read follows the activate write at once; an active mode commits (the session
is OPEN, the response OK with the mode code: OPEN COMPLETES), any other mode is a configuration error at step 10, reported
after the cleanup release (R92; that the error waits in `pendErr` meanwhile is the model's choice, assumption log 7). -/
def Obligations.OpenConfirmsAndCommits : Prop :=
  (∀ (s : State) (bus : BusId) (addr : SlaveAddr) (rest : List Input),
    s.Awaits .cr1ActiveWrite (.write [0x10, 0x19]) .ok rest →
    exec (.openSession bus addr) s =
      .next ((s.observed (.write [0x10, 0x19]) .ok rest).waiting .confirmAddrWrite
        (.write [modeRegAddr s.params.modeReg]))) ∧
  (∀ (s : State) (bus : BusId) (addr : SlaveAddr) (m : Byte) (rest : List Input),
    s.Awaits .confirmAddrWrite (.write [m]) .ok rest →
    exec (.openSession bus addr) s = .next ((s.observed (.write [m]) .ok rest).waiting .confirmRead (.read 1))) ∧
  (∀ (s : State) (bus : BusId) (addr : SlaveAddr) (b : Byte) (rest : List Input),
    s.Awaits .confirmRead (.read 1) (.okBytes [b]) rest →
    decodeMode b = .activeRaw ∨ decodeMode b = .activeCorrected →
    exec (.openSession bus addr) s =
      .next ({ s.observed (.read 1) (.okBytes [b]) rest with cachedMode := decodeMode b, sess := .opened }.completed
        (okResponse ((decodeMode b).code.setWidth 48)))) ∧
  ∀ (s : State) (bus : BusId) (addr : SlaveAddr) (b : Byte) (rest : List Input),
    s.Awaits .confirmRead (.read 1) (.okBytes [b]) rest → decodeMode b = .standby ∨ decodeMode b = .unknown →
    exec (.openSession bus addr) s =
      .next { { s.observed (.read 1) (.okBytes [b]) rest with cachedMode := decodeMode b }.waiting .release .release with
        pendErr := some { status := .configError, step := .confirmMode } }

/-- 41_session_mode.md R92: a FAIL at any step after the acquire issues the release with that step's IO_ERROR to report;
whatever the release answers, the session is CLOSED with no binding and no belief, and the original error is the response
(where the original error waits meanwhile is assumption log 7). -/
def Obligations.FailedOpenIsCleanedUp : Prop :=
  (∀ (s : State) (bus : BusId) (addr : SlaveAddr) (k : StepId) (t : Transaction) (rest : List Input),
    k ≠ .acquire → k ≠ .release → s.Awaits k t .fail rest →
    exec (.openSession bus addr) s =
      .next { (s.observed t .fail rest).waiting .release .release with
        pendErr := some { status := .ioError, step := k } }) ∧
  ∀ (s : State) (bus : BusId) (addr : SlaveAddr) (a : Answer) (e : PendingError) (rest : List Input),
    a = .ok ∨ a = .fail → s.Awaits .release .release a rest → s.pendErr = some e →
    exec (.openSession bus addr) s =
      .next ((s.observed .release a rest).sessionClosed.completed (errorResponse e.status e.step))

/-- 41_session_mode.md R84 (its Standby path), 95_test_vectors.md 2.4: from IDLE and CLOSED, a whole OPEN of a device in
Standby is seven transactions and leaves the session OPEN with the confirmed mode. -/
def Obligations.OpenOfAStandbyDevice : Prop :=
  ∀ (s : State) (bus : BusId) (addr : SlaveAddr) (b c : Byte) (rest : List Input),
    s.Quiet → s.sess = .closed → decodeMode b = .standby → (decodeMode c).isActive = true →
    s.inputs = .command (encode (.openSession bus addr)) :: .answer .ok :: .answer .ok :: .answer .ok ::
      .answer (.okBytes [b]) :: .answer .ok :: .answer .ok :: .answer (.okBytes [c]) :: rest →
    ∃ t, runSteps 8 s = .next t ∧ t.ph = .idle ∧ t.inputs = rest ∧ t.sess = .opened ∧ t.busId = some bus ∧
      t.devAddr = some addr ∧ t.cachedMode = decodeMode c ∧ t.rspValid = true ∧
      t.rsp = some (okResponse ((decodeMode c).code.setWidth 48)) ∧
      t.transcript = s.transcript ++
        [(.acquire bus, .ok), (.bind addr, .ok), (.write [modeRegAddr s.params.modeReg], .ok), (.read 1, .okBytes [b]),
         (.write [0x10, 0x19], .ok), (.write [modeRegAddr s.params.modeReg], .ok), (.read 1, .okBytes [c])]

/-- 41_session_mode.md R84 (its other path), R93 (an inference the spec marks as derived): a whole OPEN of a device in any
other mode is nine transactions, the force-Standby write and the CR2 write before the activate write. -/
def Obligations.OpenOfAnActiveDevice : Prop :=
  ∀ (s : State) (bus : BusId) (addr : SlaveAddr) (b c : Byte) (rest : List Input),
    s.Quiet → s.sess = .closed → decodeMode b ≠ .standby → (decodeMode c).isActive = true →
    s.inputs = .command (encode (.openSession bus addr)) :: .answer .ok :: .answer .ok :: .answer .ok ::
      .answer (.okBytes [b]) :: .answer .ok :: .answer .ok :: .answer .ok :: .answer .ok ::
      .answer (.okBytes [c]) :: rest →
    ∃ t, runSteps 10 s = .next t ∧ t.ph = .idle ∧ t.inputs = rest ∧ t.sess = .opened ∧ t.busId = some bus ∧
      t.devAddr = some addr ∧ t.cachedMode = decodeMode c ∧ t.rspValid = true ∧
      t.rsp = some (okResponse ((decodeMode c).code.setWidth 48)) ∧
      t.transcript = s.transcript ++
        [(.acquire bus, .ok), (.bind addr, .ok), (.write [modeRegAddr s.params.modeReg], .ok), (.read 1, .okBytes [b]),
         (.write [0x10, 0x18], .ok), (.write [0x11, cr2Img s.params], .ok), (.write [0x10, 0x19], .ok),
         (.write [modeRegAddr s.params.modeReg], .ok), (.read 1, .okBytes [c])]

/-! ### TEST_MODE, READ_SAMPLE, CLOSE -/

/-- 41_session_mode.md R83, whole: the word, NOT_OPEN, the two transactions and their failures, and the completion, which
updates `CACHED_MODE` and answers the mode code with the raw byte. -/
def Obligations.TestModeReadsTheMode : Prop :=
  (∀ w : Word, decode w = .ok .testMode ↔ w = 0x9000) ∧
  (∀ s : State, s.Quiet → s.sess = .closed →
    exec .testMode s = .next (s.answered (errorResponse .notOpen .noStep))) ∧
  (∀ s : State, s.ph = .idle → s.sess = .opened →
    exec .testMode s = .next (s.waiting .modeAddrWrite (.write [modeRegAddr s.params.modeReg]))) ∧
  modeRegAddr Params.default.modeReg = 0x08 ∧
  (∀ (s : State) (m : Byte) (rest : List Input), s.Awaits .modeAddrWrite (.write [m]) .ok rest →
    exec .testMode s = .next ((s.observed (.write [m]) .ok rest).waiting .modeRead (.read 1))) ∧
  (∀ (s : State) (m : Byte) (rest : List Input), s.Awaits .modeAddrWrite (.write [m]) .fail rest →
    exec .testMode s = .next ((s.observed (.write [m]) .fail rest).completed (errorResponse .ioError .modeAddrWrite))) ∧
  (∀ (s : State) (rest : List Input), s.Awaits .modeRead (.read 1) .fail rest →
    exec .testMode s = .next ((s.observed (.read 1) .fail rest).completed (errorResponse .ioError .modeRead))) ∧
  (∀ (s : State) (b : Byte) (rest : List Input), s.Awaits .modeRead (.read 1) (.okBytes [b]) rest → ∃ d : Data,
    exec .testMode s =
      .next ({ s.observed (.read 1) (.okBytes [b]) rest with cachedMode := decodeMode b }.completed (okResponse d)) ∧
    d.extractLsb' 0 3 = (decodeMode b).code ∧ d.extractLsb' 3 5 = 0 ∧ d.extractLsb' 8 8 = b ∧ d.extractLsb' 16 32 = 0) ∧
  ∀ (s : State) (rest : List Input), s.Awaits .modeRead (.read 1) (.okBytes [0x02]) rest →
    exec .testMode s =
      .next ({ s.observed (.read 1) (.okBytes [0x02]) rest with cachedMode := .activeCorrected }.completed
        (okResponse 0x0203))

/-- 42_sample_close.md R95, whole: the refusal of a missing destination in either session (before the session check), NOT_OPEN,
the two transactions and their failures, and the completion with the three samples, most significant byte first. -/
def Obligations.ReadSampleDeliversTheSample : Prop :=
  (∀ (w : Word) (dv : BitVec 3), decode w = .ok (.readSample dv) ↔
    w.extractLsb' 12 4 = 0xA ∧ w.extractLsb' 3 9 = 0 ∧ w.extractLsb' 0 3 = dv) ∧
  (∀ (s : State) (dv : BitVec 3), s.Quiet → dv ≠ 0b111 →
    exec (.readSample dv) s = .next (s.answered (errorResponse .invalidArgument .noStep))) ∧
  (∀ s : State, s.Quiet → s.sess = .closed →
    exec (.readSample 0b111) s = .next (s.answered (errorResponse .notOpen .noStep))) ∧
  (∀ s : State, s.ph = .idle → s.sess = .opened →
    exec (.readSample 0b111) s = .next (s.waiting .sampleAddrWrite (.write [0x01]))) ∧
  (∀ (s : State) (rest : List Input), s.Awaits .sampleAddrWrite (.write [0x01]) .ok rest →
    exec (.readSample 0b111) s = .next ((s.observed (.write [0x01]) .ok rest).waiting .sampleRead (.read 6))) ∧
  (∀ (s : State) (rest : List Input), s.Awaits .sampleAddrWrite (.write [0x01]) .fail rest →
    exec (.readSample 0b111) s =
      .next ((s.observed (.write [0x01]) .fail rest).completed (errorResponse .ioError .sampleAddrWrite))) ∧
  (∀ (s : State) (rest : List Input), s.Awaits .sampleRead (.read 6) .fail rest →
    exec (.readSample 0b111) s =
      .next ((s.observed (.read 6) .fail rest).completed (errorResponse .ioError .sampleRead))) ∧
  (∀ (s : State) (b0 b1 b2 b3 b4 b5 : Byte) (rest : List Input),
    s.Awaits .sampleRead (.read 6) (.okBytes [b0, b1, b2, b3, b4, b5]) rest → ∃ d : Data,
    exec (.readSample 0b111) s =
      .next ({ s.observed (.read 6) (.okBytes [b0, b1, b2, b3, b4, b5]) rest with
        wb := some { b0 := b0, b1 := b1, b2 := b2, b3 := b3, b4 := b4, b5 := b5 } }.completed (okResponse d)) ∧
    d.extractLsb' 8 8 = b0 ∧ d.extractLsb' 0 8 = b1 ∧ d.extractLsb' 24 8 = b2 ∧ d.extractLsb' 16 8 = b3 ∧
    d.extractLsb' 40 8 = b4 ∧ d.extractLsb' 32 8 = b5) ∧
  (∀ (s : State) (rest : List Input),
    s.Awaits .sampleRead (.read 6) (.okBytes [0x12, 0x34, 0x56, 0x78, 0x9A, 0xBC]) rest →
    ∃ t, exec (.readSample 0b111) s = .next t ∧ t.rsp = some (okResponse 0x9ABC56781234)) ∧
  int16 (lane 0x80 0x00) = -32768 ∧ int16 (lane 0x7F 0xFF) = 32767 ∧ int16 (lane 0xFF 0xFF) = -1

/-- 42_sample_close.md R96, R98 (their inferences marked as derived): a lane is `256 * msb + lsb`, the signed reading is two's
complement (assumption log 19), the lane function is a bijection from byte pairs, and exchanging byte pairs exchanges lanes. -/
def Obligations.ReassemblyIsMostSignificantFirst : Prop :=
  (∀ msb lsb : Byte, (lane msb lsb).toNat = 256 * msb.toNat + lsb.toNat) ∧
  (∀ msb lsb msb' lsb' : Byte, lane msb lsb = lane msb' lsb' → msb = msb' ∧ lsb = lsb') ∧
  (∀ v : Word, ∃ msb lsb : Byte, lane msb lsb = v) ∧
  (∀ v : Word, int16 v = v.toInt) ∧
  (∀ wb : Burst, reassemble wb = { x := lane wb.b0 wb.b1, y := lane wb.b2 wb.b3, z := lane wb.b4 wb.b5 }) ∧
  ∀ wb : Burst,
    let exchanged := reassemble { wb with b0 := wb.b2, b1 := wb.b3, b2 := wb.b0, b3 := wb.b1 }
    exchanged.x = (reassemble wb).y ∧ exchanged.y = (reassemble wb).x ∧ exchanged.z = (reassemble wb).z

/-- 42_sample_close.md R97: whatever READ_SAMPLE raises, DATA is 0 and the session is as it was; the host takes no sample
from the response; and `WB` is ⊥ after the next accepting step, of any word. -/
def Obligations.ReadSampleIsAllOrNothing : Prop :=
  (∀ (s t : State) (dv : BitVec 3) (r : Response), s.rspValid = false → exec (.readSample dv) s = .next t →
    t.rspValid = true → t.rsp = some r → r.status ≠ .ok →
    r.data = 0 ∧ r.sample = none ∧ t.sess = s.sess ∧ t.busId = s.busId ∧ t.devAddr = s.devAddr ∧
      t.cachedMode = s.cachedMode ∧ t.wb = s.wb ∧ t.ph = .idle) ∧
  ∀ (s t : State) (w : Word) (rest : List Input), s.ph = .idle → s.inputs = .command w :: rest → step s = .next t →
    t.wb = none

/-- 42_sample_close.md R95, 10_state.md R23: no step of READ_SAMPLE, whatever it answers, writes the session, the binding or
`CACHED_MODE`. -/
def Obligations.ReadSampleKeepsTheSession : Prop :=
  ∀ (s t : State) (dv : BitVec 3), exec (.readSample dv) s = .next t →
    t.sess = s.sess ∧ t.busId = s.busId ∧ t.devAddr = s.devAddr ∧ t.cachedMode = s.cachedMode ∧ t.cur = s.cur ∧
      t.m0 = s.m0 ∧ t.params = s.params

/-- 42_sample_close.md R100, whole: the word, NOT_OPEN (a second CLOSE among them), the release, and the completion with the
session CLOSED whether the release answers OK or FAIL. -/
def Obligations.CloseReleasesAndCloses : Prop :=
  (∀ w : Word, decode w = .ok .closeSession ↔ w = 0xB000) ∧
  (∀ s : State, s.Quiet → s.sess = .closed →
    exec .closeSession s = .next (s.answered (errorResponse .notOpen .noStep))) ∧
  (∀ s : State, s.ph = .idle → s.sess = .opened → exec .closeSession s = .next (s.waiting .release .release)) ∧
  (∀ (s : State) (rest : List Input), s.Awaits .release .release .ok rest →
    exec .closeSession s = .next ((s.observed .release .ok rest).sessionClosed.completed (okResponse 0))) ∧
  ∀ (s : State) (rest : List Input), s.Awaits .release .release .fail rest →
    exec .closeSession s =
      .next ((s.observed .release .fail rest).sessionClosed.completed (errorResponse .ioError .release))

/-- 42_sample_close.md R101, 41_session_mode.md R84, 60_exceptions.md R113, R114, R120: in a CLOSED session TEST_MODE, READ_SAMPLE with every destination and
CLOSE are answered NOT_OPEN and nothing else happens, while OPEN starts a new session; in an OPEN session OPEN is answered
ALREADY_OPEN and nothing else happens. -/
def Obligations.SessionChecks : Prop :=
  (∀ (s : State) (i : Instr), s.Quiet → s.sess = .closed →
    i = .testMode ∨ i = .readSample 0b111 ∨ i = .closeSession →
    exec i s = .next (s.answered (errorResponse .notOpen .noStep))) ∧
  (∀ (s : State) (bus : BusId) (addr : SlaveAddr), s.Quiet → s.sess = .closed →
    exec (.openSession bus addr) s = .next ({ s with busId := some bus }.waiting .acquire (.acquire bus))) ∧
  ∀ (s : State) (bus : BusId) (addr : SlaveAddr), s.Quiet → s.sess = .opened →
    exec (.openSession bus addr) s = .next (s.answered (errorResponse .alreadyOpen .noStep))

/-- 42_sample_close.md R99: the host's storage of a sample value in each byte order. -/
def Obligations.HostStorageByByteOrder : Prop :=
  ∀ (a : Nat) (v : Word),
    storeSample .little a v = [(a, v.extractLsb' 0 8), (a + 1, v.extractLsb' 8 8)] ∧
    storeSample .big a v = [(a, v.extractLsb' 8 8), (a + 1, v.extractLsb' 0 8)] ∧
    ∀ msb lsb : Byte, storeSample .little a (lane msb lsb) = [(a, lsb), (a + 1, msb)]

/-! ### Whole-machine rules -/

/-- The state after reset meets the invariant, the bus discipline and the quiesce order. -/
def Obligations.ResetMeetsTheInvariants : Prop :=
  Inv State.reset ∧ BusDiscipline State.reset ∧ QuiesceOrder State.reset

/-- 10_state.md R20 to R28, 30_encoding.md R55: every step keeps the invariant of the block's state: what each phase waits
on, where the binding and the belief hold values, and the shape of every response. -/
def Obligations.StepKeepsTheInvariant : Prop :=
  ∀ s t : State, Inv s → step s = .next t → Inv t

/-- 00_scope.md R8, 60_exceptions.md R125, 70_reset_and_hazards.md R130 (its last sentence is an inference the spec marks as
derived): from a state that meets the invariant the machine stops only for want of an input, or on an answer that the
environment cannot give (20_memory.md R35; that the model stops on it is assumption log 6); it never reads ⊥ and never
refuses. -/
def Obligations.StopsOnlyForWantOfAnInput : Prop :=
  ∀ s : State, Inv s →
    (∃ t, step s = .next t) ∨
    (s.inputs = [] ∧ (step s = .fault .awaitingCommand ∨ ∃ k, step s = .fault (.awaitingAnswer k))) ∨
    (step s = .fault .answerShape ∧
      ∃ a rest tx, s.inputs = .answer a :: rest ∧ s.bus = some tx ∧ tx.admits a = false)

/-- 20_memory.md R36: every step keeps the discipline of the bus: a bind only after a successful acquire, a write or a read
only after a successful bind and before the next release. -/
def Obligations.StepKeepsTheBusDiscipline : Prop :=
  ∀ s t : State, Inv s → BusDiscipline s → step s = .next t → BusDiscipline t

/-- 41_session_mode.md R93 (an inference the spec marks as derived): every step keeps the order force-Standby, CR2,
activate. -/
def Obligations.StepKeepsTheQuiesceOrder : Prop :=
  ∀ s t : State, Inv s → QuiesceOrder s → step s = .next t → QuiesceOrder t

/-- 20_memory.md R31 (an inference the spec marks as derived): a write that a step issues addresses 0x01, 0x10, 0x11 or
`P_MODE_REG`. -/
def Obligations.IssuedAddressesAreFour : Prop :=
  ∀ (s t : State) (a : Byte) (bytes : List Byte), step s = .next t → t.bus = some (.write (a :: bytes)) →
    t.bus ≠ s.bus → issuedAddress s.params a = true

/-- 20_memory.md R43, R44: a step leaves the transcript as it is, or adds the one pair of the outstanding transaction and
the answer to it. -/
def Obligations.TranscriptGrowsByTheAnsweredPair : Prop :=
  ∀ s t : State, step s = .next t →
    t.transcript = s.transcript ∨
    ∃ k tx a rest, s.ph = .busy k ∧ s.bus = some tx ∧ s.inputs = .answer a :: rest ∧ tx.admits a = true ∧
      t.transcript = s.transcript ++ [(tx, a)]

/-- 10_state.md R26, 30_encoding.md R55: a step gives no response and leaves `RSP` as it is (but for reset, which clears it), or
gives exactly one, which `RSP` then holds, with `RSP_VALID` 1 and the block IDLE. -/
def Obligations.ResponsesGrowByTheOneGiven : Prop :=
  ∀ s t : State, step s = .next t →
    (t.responses = s.responses ∧ (t.rsp = s.rsp ∨ ∃ rest, s.inputs = .reset :: rest)) ∨
    ∃ r, t.rsp = some r ∧ t.rspValid = true ∧ t.ph = .idle ∧ t.bus = none ∧ t.responses = s.responses ++ [r]

/-- 00_scope.md R6: no step writes the parameters. -/
def Obligations.ParametersAreNeverWritten : Prop :=
  ∀ s t : State, step s = .next t → t.params = s.params

/-- 60_exceptions.md R120, 10_state.md R21: only OPEN's confirmed commit enters OPEN, and only CLOSE's answered release or
reset leaves it. -/
def Obligations.SessionChangesOnlyByOpenAndClose : Prop :=
  ∀ s t : State, Inv s → step s = .next t →
    (s.sess = .closed → t.sess = .opened →
      s.ph = .busy .confirmRead ∧ t.cachedMode.isActive = true ∧ t.rsp = some (okResponse (t.cachedMode.code.setWidth 48)) ∧
        ∃ bus addr, s.cur = some (encode (.openSession bus addr)) ∧ t.busId = some bus ∧ t.devAddr = some addr) ∧
    (s.sess = .opened → t.sess = .closed →
      (∃ rest, s.inputs = .reset :: rest) ∨ (s.ph = .busy .release ∧ s.cur = some (encode .closeSession)))

/-- 60_exceptions.md R113: a Register Map command, TEST_MODE or READ_SAMPLE that ends in an error leaves session, binding
and belief as they were; so does an OPEN answered ALREADY_OPEN and a CLOSE answered NOT_OPEN; any other error of OPEN or
CLOSE leaves the session CLOSED with no binding and no belief. -/
def Obligations.ErrorsWriteWhatTheirCommandAllows : Prop :=
  ∀ (i : Instr) (s t : State) (r : Response), s.rspValid = false → exec i s = .next t → t.rspValid = true →
    t.rsp = some r → r.status ≠ .ok →
    r.data = 0 ∧
    (isOpen i = false ∧ i ≠ .closeSession ∨ r.status = .alreadyOpen ∨ r.status = .notOpen →
      s.pendErr = none →
      t.sess = s.sess ∧ t.busId = s.busId ∧ t.devAddr = s.devAddr ∧ t.cachedMode = s.cachedMode) ∧
    (isOpen i = true ∨ i = .closeSession → r.status = .ioError ∨ r.status = .configError →
      t.sess = .closed ∧ t.busId = none ∧ t.devAddr = none ∧ t.cachedMode = .noBelief)

/-- 41_session_mode.md R94, 20_memory.md R48 (an inference the spec marks as derived): `CACHED_MODE` steers nothing. Two
states that differ in it alone take steps that differ in it alone, but for an accepted GET_STATE, which shows it. -/
def Obligations.CachedModeSteersNothing : Prop :=
  ∀ (s t : State) (m : Mode), step s = .next t →
    ¬ (s.ph = .idle ∧ ∃ rest, s.inputs = .command 0x7000 :: rest) →
    ∃ t', step { s with cachedMode := m } = .next t' ∧ t' = { t with cachedMode := t'.cachedMode }

/-- 41_session_mode.md R81 (an inference the spec marks as derived): the command-level view and the steps agree. When the
view of an accepted command completes, finitely many steps reach its final state, with the same response and transcript and
the unused answers still to come; when it holds, finitely many steps reach the hold, where the block has no step. -/
def Obligations.StepsUnfoldTheCommandView : Prop :=
  ∀ (s : State) (w : Word) (as : List Answer), s.ph = .idle →
    (∀ (later : List Input) (t : State) (unused : List Answer),
      s.inputs = .command w :: as.map .answer ++ later → runCommand s w as = .completes t unused →
      ∃ n, runSteps n s = .next { t with inputs := unused.map .answer ++ later } ∧ t.ph = .idle ∧ t.rspValid = true) ∧
    ∀ t : State, s.inputs = .command w :: as.map .answer → runCommand s w as = .holds t →
      ∃ n k, runSteps n s = .next { t with inputs := [] } ∧ t.ph = .busy k ∧
        step { t with inputs := [] } = .fault (.awaitingAnswer k)
end

