-- ==== Sys2Proof/Laws/Bits.lean ====
section
/-! SUPPORT. The bits of a placed field, and what extracting a field from a layout gives: what a proof about a layout
needs. A layout is a disjunction of placed fields, so its proof is `simp (disch := omega) only` with these lemmas. -/

namespace Sys2Proof

/-- A placed field's bits stand from `lo` on, and every other bit is 0. -/
@[simp] theorem getLsbD_place {n : Nat} (w lo : Nat) (v : BitVec n) (i : Nat) :
    (place w lo v).getLsbD i = (decide (i < w) && decide (lo ≤ i) && v.getLsbD (i - lo)) := by
  unfold place
  by_cases hw : i < w <;> by_cases hl : lo ≤ i <;> simp [hw, hl, BitVec.getLsbD_shiftLeft, BitVec.getLsbD_setWidth]

/-- A field extracted from where it was placed. -/
theorem extract_place_same {n : Nat} (w lo : Nat) (v : BitVec n) (h : lo + n ≤ w) :
    (place w lo v).extractLsb' lo n = v := by
  refine BitVec.eq_of_getLsbD_eq fun i hi => ?_
  rw [BitVec.getLsbD_extractLsb', getLsbD_place]
  simp [hi, show lo + i < w by omega, -BitVec.getLsbD_eq_getElem]

/-- A part of a placed field is that part of the field. -/
theorem extract_place_within {n : Nat} (w lo a m : Nat) (v : BitVec n) (hl : lo ≤ a) (hm : a + m ≤ lo + n)
    (hw : lo + n ≤ w) : (place w lo v).extractLsb' a m = v.extractLsb' (a - lo) m := by
  refine BitVec.eq_of_getLsbD_eq fun i hi => ?_
  rw [BitVec.getLsbD_extractLsb', getLsbD_place, BitVec.getLsbD_extractLsb']
  simp [hi, show a + i < w by omega, show lo ≤ a + i by omega, show a + i - lo = a - lo + i by omega,
    -BitVec.getLsbD_eq_getElem]

/-- Nothing is found below a placed field. -/
theorem extract_place_below {n : Nat} (w lo a m : Nat) (v : BitVec n) (h : a + m ≤ lo) :
    (place w lo v).extractLsb' a m = 0#m := by
  refine BitVec.eq_of_getLsbD_eq fun i hi => ?_
  rw [BitVec.getLsbD_extractLsb', getLsbD_place]
  simp [show ¬ lo ≤ a + i by omega]

/-- Nothing is found above a placed field. -/
theorem extract_place_above {n : Nat} (w lo a m : Nat) (v : BitVec n) (h : lo + n ≤ a) :
    (place w lo v).extractLsb' a m = 0#m := by
  refine BitVec.eq_of_getLsbD_eq fun i hi => ?_
  rw [BitVec.getLsbD_extractLsb', getLsbD_place]
  simp [BitVec.getLsbD_of_ge v (a + i - lo) (by omega)]

/-- Extraction goes through a disjunction. -/
theorem extract_or {w : Nat} (x y : BitVec w) (a m : Nat) :
    (x ||| y).extractLsb' a m = x.extractLsb' a m ||| y.extractLsb' a m := by
  refine BitVec.eq_of_getLsbD_eq fun i hi => ?_
  simp [BitVec.getLsbD_extractLsb', hi, -BitVec.getLsbD_eq_getElem]

/-- Extraction from an extraction. -/
theorem extract_extract {w : Nat} (x : BitVec w) (a n b m : Nat) (h : b + m ≤ n) :
    (x.extractLsb' a n).extractLsb' b m = x.extractLsb' (a + b) m := by
  refine BitVec.eq_of_getLsbD_eq fun i hi => ?_
  simp [BitVec.getLsbD_extractLsb', hi, show b + i < n by omega, Nat.add_assoc, -BitVec.getLsbD_eq_getElem]

/-- A value is its low part and its high part, placed. -/
theorem place_split {w : Nat} (x : BitVec w) (n : Nat) (h : n ≤ w) :
    place w n (x.extractLsb' n (w - n)) ||| place w 0 (x.extractLsb' 0 n) = x := by
  refine BitVec.eq_of_getLsbD_eq fun i hi => ?_
  rw [BitVec.getLsbD_or, getLsbD_place, getLsbD_place, BitVec.getLsbD_extractLsb', BitVec.getLsbD_extractLsb']
  by_cases hn : n ≤ i
  · simp [hi, hn, show i - n < w - n by omega, show n + (i - n) = i by omega, show ¬ i < n by omega,
      -BitVec.getLsbD_eq_getElem]
  · simp [hi, hn, show i < n by omega, -BitVec.getLsbD_eq_getElem]

end Sys2Proof
end

