-- ==== Sys2Proof/Laws/State.lean ====
section
/-! SUPPORT. One lemma per field per update of State, and each derived update as the shared one it is: no proof needs to
unfold a record update. -/

namespace Sys2Proof.Machine

/-! ### Derived updates -/

@[simp] theorem State.done_eq (d : Data) (s : State) : s.done d = s.respond .ok .noStep d := rfl

@[simp] theorem State.raise_eq (e : Status) (k : StepId) (s : State) : s.raise e k = s.respond e k 0 := rfl

@[simp] theorem State.issueRegWrite_eq (k : StepId) (a v : Byte) (s : State) :
    s.issueRegWrite k a v = s.issue k (regWrite a v) := rfl

@[simp] theorem State.issueAddrWrite_eq (k : StepId) (a : Byte) (s : State) :
    s.issueAddrWrite k a = s.issue k (addrWrite a) := rfl

@[simp] theorem State.issueRead_eq (k : StepId) (n : Nat) (s : State) : s.issueRead k n = s.issue k (.read n) := rfl

/-! ### dropInput -/

@[simp] theorem State.dropInput_params (s : State) : s.dropInput.params = s.params := rfl

@[simp] theorem State.dropInput_inputs (s : State) : s.dropInput.inputs = s.inputs.tail := rfl

@[simp] theorem State.dropInput_sess (s : State) : s.dropInput.sess = s.sess := rfl

@[simp] theorem State.dropInput_busId (s : State) : s.dropInput.busId = s.busId := rfl

@[simp] theorem State.dropInput_devAddr (s : State) : s.dropInput.devAddr = s.devAddr := rfl

@[simp] theorem State.dropInput_cachedMode (s : State) : s.dropInput.cachedMode = s.cachedMode := rfl

@[simp] theorem State.dropInput_ph (s : State) : s.dropInput.ph = s.ph := rfl

@[simp] theorem State.dropInput_cur (s : State) : s.dropInput.cur = s.cur := rfl

@[simp] theorem State.dropInput_wb (s : State) : s.dropInput.wb = s.wb := rfl

@[simp] theorem State.dropInput_m0 (s : State) : s.dropInput.m0 = s.m0 := rfl

@[simp] theorem State.dropInput_rsp (s : State) : s.dropInput.rsp = s.rsp := rfl

@[simp] theorem State.dropInput_rspValid (s : State) : s.dropInput.rspValid = s.rspValid := rfl

@[simp] theorem State.dropInput_bus (s : State) : s.dropInput.bus = s.bus := rfl

@[simp] theorem State.dropInput_pendErr (s : State) : s.dropInput.pendErr = s.pendErr := rfl

@[simp] theorem State.dropInput_transcript (s : State) : s.dropInput.transcript = s.transcript := rfl

@[simp] theorem State.dropInput_responses (s : State) : s.dropInput.responses = s.responses := rfl

/-! ### accept -/

@[simp] theorem State.accept_params (w : Word) (s : State) : (s.accept w).params = s.params := rfl

@[simp] theorem State.accept_inputs (w : Word) (s : State) : (s.accept w).inputs = s.inputs.tail := rfl

@[simp] theorem State.accept_sess (w : Word) (s : State) : (s.accept w).sess = s.sess := rfl

@[simp] theorem State.accept_busId (w : Word) (s : State) : (s.accept w).busId = s.busId := rfl

@[simp] theorem State.accept_devAddr (w : Word) (s : State) : (s.accept w).devAddr = s.devAddr := rfl

@[simp] theorem State.accept_cachedMode (w : Word) (s : State) : (s.accept w).cachedMode = s.cachedMode := rfl

@[simp] theorem State.accept_ph (w : Word) (s : State) : (s.accept w).ph = s.ph := rfl

@[simp] theorem State.accept_cur (w : Word) (s : State) : (s.accept w).cur = some w := rfl

@[simp] theorem State.accept_wb (w : Word) (s : State) : (s.accept w).wb = none := rfl

@[simp] theorem State.accept_m0 (w : Word) (s : State) : (s.accept w).m0 = none := rfl

@[simp] theorem State.accept_rsp (w : Word) (s : State) : (s.accept w).rsp = s.rsp := rfl

@[simp] theorem State.accept_rspValid (w : Word) (s : State) : (s.accept w).rspValid = false := rfl

@[simp] theorem State.accept_bus (w : Word) (s : State) : (s.accept w).bus = s.bus := rfl

@[simp] theorem State.accept_pendErr (w : Word) (s : State) : (s.accept w).pendErr = s.pendErr := rfl

@[simp] theorem State.accept_transcript (w : Word) (s : State) : (s.accept w).transcript = s.transcript := rfl

@[simp] theorem State.accept_responses (w : Word) (s : State) : (s.accept w).responses = s.responses := rfl

/-! ### resetBlock -/

@[simp] theorem State.resetBlock_params (s : State) : s.resetBlock.params = s.params := rfl

@[simp] theorem State.resetBlock_inputs (s : State) : s.resetBlock.inputs = s.inputs.tail := rfl

@[simp] theorem State.resetBlock_sess (s : State) : s.resetBlock.sess = .closed := rfl

@[simp] theorem State.resetBlock_busId (s : State) : s.resetBlock.busId = none := rfl

@[simp] theorem State.resetBlock_devAddr (s : State) : s.resetBlock.devAddr = none := rfl

@[simp] theorem State.resetBlock_cachedMode (s : State) : s.resetBlock.cachedMode = .noBelief := rfl

@[simp] theorem State.resetBlock_ph (s : State) : s.resetBlock.ph = .idle := rfl

@[simp] theorem State.resetBlock_cur (s : State) : s.resetBlock.cur = none := rfl

@[simp] theorem State.resetBlock_wb (s : State) : s.resetBlock.wb = none := rfl

@[simp] theorem State.resetBlock_m0 (s : State) : s.resetBlock.m0 = none := rfl

@[simp] theorem State.resetBlock_rsp (s : State) : s.resetBlock.rsp = none := rfl

@[simp] theorem State.resetBlock_rspValid (s : State) : s.resetBlock.rspValid = false := rfl

@[simp] theorem State.resetBlock_bus (s : State) : s.resetBlock.bus = none := rfl

@[simp] theorem State.resetBlock_pendErr (s : State) : s.resetBlock.pendErr = none := rfl

@[simp] theorem State.resetBlock_transcript (s : State) : s.resetBlock.transcript = s.transcript := rfl

@[simp] theorem State.resetBlock_responses (s : State) : s.resetBlock.responses = s.responses := rfl

/-! ### respond -/

@[simp] theorem State.respond_params (st : Status) (k : StepId) (d : Data) (s : State) : (s.respond st k d).params = s.params := rfl

@[simp] theorem State.respond_inputs (st : Status) (k : StepId) (d : Data) (s : State) : (s.respond st k d).inputs = s.inputs := rfl

@[simp] theorem State.respond_sess (st : Status) (k : StepId) (d : Data) (s : State) : (s.respond st k d).sess = s.sess := rfl

@[simp] theorem State.respond_busId (st : Status) (k : StepId) (d : Data) (s : State) : (s.respond st k d).busId = s.busId := rfl

@[simp] theorem State.respond_devAddr (st : Status) (k : StepId) (d : Data) (s : State) : (s.respond st k d).devAddr = s.devAddr := rfl

@[simp] theorem State.respond_cachedMode (st : Status) (k : StepId) (d : Data) (s : State) : (s.respond st k d).cachedMode = s.cachedMode := rfl

@[simp] theorem State.respond_ph (st : Status) (k : StepId) (d : Data) (s : State) : (s.respond st k d).ph = .idle := rfl

@[simp] theorem State.respond_cur (st : Status) (k : StepId) (d : Data) (s : State) : (s.respond st k d).cur = s.cur := rfl

@[simp] theorem State.respond_wb (st : Status) (k : StepId) (d : Data) (s : State) : (s.respond st k d).wb = s.wb := rfl

@[simp] theorem State.respond_m0 (st : Status) (k : StepId) (d : Data) (s : State) : (s.respond st k d).m0 = s.m0 := rfl

@[simp] theorem State.respond_rsp (st : Status) (k : StepId) (d : Data) (s : State) : (s.respond st k d).rsp = some { status := st, step := k, data := d } := rfl

@[simp] theorem State.respond_rspValid (st : Status) (k : StepId) (d : Data) (s : State) : (s.respond st k d).rspValid = true := rfl

@[simp] theorem State.respond_bus (st : Status) (k : StepId) (d : Data) (s : State) : (s.respond st k d).bus = none := rfl

@[simp] theorem State.respond_pendErr (st : Status) (k : StepId) (d : Data) (s : State) : (s.respond st k d).pendErr = none := rfl

@[simp] theorem State.respond_transcript (st : Status) (k : StepId) (d : Data) (s : State) : (s.respond st k d).transcript = s.transcript := rfl

@[simp] theorem State.respond_responses (st : Status) (k : StepId) (d : Data) (s : State) : (s.respond st k d).responses = s.responses ++ [{ status := st, step := k, data := d }] := rfl

/-! ### issue -/

@[simp] theorem State.issue_params (k : StepId) (t : Transaction) (s : State) : (s.issue k t).params = s.params := rfl

@[simp] theorem State.issue_inputs (k : StepId) (t : Transaction) (s : State) : (s.issue k t).inputs = s.inputs := rfl

@[simp] theorem State.issue_sess (k : StepId) (t : Transaction) (s : State) : (s.issue k t).sess = s.sess := rfl

@[simp] theorem State.issue_busId (k : StepId) (t : Transaction) (s : State) : (s.issue k t).busId = s.busId := rfl

@[simp] theorem State.issue_devAddr (k : StepId) (t : Transaction) (s : State) : (s.issue k t).devAddr = s.devAddr := rfl

@[simp] theorem State.issue_cachedMode (k : StepId) (t : Transaction) (s : State) : (s.issue k t).cachedMode = s.cachedMode := rfl

@[simp] theorem State.issue_ph (k : StepId) (t : Transaction) (s : State) : (s.issue k t).ph = .busy k := rfl

@[simp] theorem State.issue_cur (k : StepId) (t : Transaction) (s : State) : (s.issue k t).cur = s.cur := rfl

@[simp] theorem State.issue_wb (k : StepId) (t : Transaction) (s : State) : (s.issue k t).wb = s.wb := rfl

@[simp] theorem State.issue_m0 (k : StepId) (t : Transaction) (s : State) : (s.issue k t).m0 = s.m0 := rfl

@[simp] theorem State.issue_rsp (k : StepId) (t : Transaction) (s : State) : (s.issue k t).rsp = s.rsp := rfl

@[simp] theorem State.issue_rspValid (k : StepId) (t : Transaction) (s : State) : (s.issue k t).rspValid = s.rspValid := rfl

@[simp] theorem State.issue_bus (k : StepId) (t : Transaction) (s : State) : (s.issue k t).bus = some t := rfl

@[simp] theorem State.issue_pendErr (k : StepId) (t : Transaction) (s : State) : (s.issue k t).pendErr = s.pendErr := rfl

@[simp] theorem State.issue_transcript (k : StepId) (t : Transaction) (s : State) : (s.issue k t).transcript = s.transcript := rfl

@[simp] theorem State.issue_responses (k : StepId) (t : Transaction) (s : State) : (s.issue k t).responses = s.responses := rfl

/-! ### takeAnswer -/

@[simp] theorem State.takeAnswer_params (t : Transaction) (a : Answer) (s : State) : (s.takeAnswer t a).params = s.params := rfl

@[simp] theorem State.takeAnswer_inputs (t : Transaction) (a : Answer) (s : State) : (s.takeAnswer t a).inputs = s.inputs.tail := rfl

@[simp] theorem State.takeAnswer_sess (t : Transaction) (a : Answer) (s : State) : (s.takeAnswer t a).sess = s.sess := rfl

@[simp] theorem State.takeAnswer_busId (t : Transaction) (a : Answer) (s : State) : (s.takeAnswer t a).busId = s.busId := rfl

@[simp] theorem State.takeAnswer_devAddr (t : Transaction) (a : Answer) (s : State) : (s.takeAnswer t a).devAddr = s.devAddr := rfl

@[simp] theorem State.takeAnswer_cachedMode (t : Transaction) (a : Answer) (s : State) : (s.takeAnswer t a).cachedMode = s.cachedMode := rfl

@[simp] theorem State.takeAnswer_ph (t : Transaction) (a : Answer) (s : State) : (s.takeAnswer t a).ph = s.ph := rfl

@[simp] theorem State.takeAnswer_cur (t : Transaction) (a : Answer) (s : State) : (s.takeAnswer t a).cur = s.cur := rfl

@[simp] theorem State.takeAnswer_wb (t : Transaction) (a : Answer) (s : State) : (s.takeAnswer t a).wb = s.wb := rfl

@[simp] theorem State.takeAnswer_m0 (t : Transaction) (a : Answer) (s : State) : (s.takeAnswer t a).m0 = s.m0 := rfl

@[simp] theorem State.takeAnswer_rsp (t : Transaction) (a : Answer) (s : State) : (s.takeAnswer t a).rsp = s.rsp := rfl

@[simp] theorem State.takeAnswer_rspValid (t : Transaction) (a : Answer) (s : State) : (s.takeAnswer t a).rspValid = s.rspValid := rfl

@[simp] theorem State.takeAnswer_bus (t : Transaction) (a : Answer) (s : State) : (s.takeAnswer t a).bus = none := rfl

@[simp] theorem State.takeAnswer_pendErr (t : Transaction) (a : Answer) (s : State) : (s.takeAnswer t a).pendErr = s.pendErr := rfl

@[simp] theorem State.takeAnswer_transcript (t : Transaction) (a : Answer) (s : State) : (s.takeAnswer t a).transcript = s.transcript ++ [(t, a)] := rfl

@[simp] theorem State.takeAnswer_responses (t : Transaction) (a : Answer) (s : State) : (s.takeAnswer t a).responses = s.responses := rfl

/-! ### clearSession -/

@[simp] theorem State.clearSession_params (s : State) : s.clearSession.params = s.params := rfl

@[simp] theorem State.clearSession_inputs (s : State) : s.clearSession.inputs = s.inputs := rfl

@[simp] theorem State.clearSession_sess (s : State) : s.clearSession.sess = .closed := rfl

@[simp] theorem State.clearSession_busId (s : State) : s.clearSession.busId = none := rfl

@[simp] theorem State.clearSession_devAddr (s : State) : s.clearSession.devAddr = none := rfl

@[simp] theorem State.clearSession_cachedMode (s : State) : s.clearSession.cachedMode = .noBelief := rfl

@[simp] theorem State.clearSession_ph (s : State) : s.clearSession.ph = s.ph := rfl

@[simp] theorem State.clearSession_cur (s : State) : s.clearSession.cur = s.cur := rfl

@[simp] theorem State.clearSession_wb (s : State) : s.clearSession.wb = s.wb := rfl

@[simp] theorem State.clearSession_m0 (s : State) : s.clearSession.m0 = s.m0 := rfl

@[simp] theorem State.clearSession_rsp (s : State) : s.clearSession.rsp = s.rsp := rfl

@[simp] theorem State.clearSession_rspValid (s : State) : s.clearSession.rspValid = s.rspValid := rfl

@[simp] theorem State.clearSession_bus (s : State) : s.clearSession.bus = s.bus := rfl

@[simp] theorem State.clearSession_pendErr (s : State) : s.clearSession.pendErr = s.pendErr := rfl

@[simp] theorem State.clearSession_transcript (s : State) : s.clearSession.transcript = s.transcript := rfl

@[simp] theorem State.clearSession_responses (s : State) : s.clearSession.responses = s.responses := rfl

/-! ### openSession -/

@[simp] theorem State.openSession_params (s : State) : s.openSession.params = s.params := rfl

@[simp] theorem State.openSession_inputs (s : State) : s.openSession.inputs = s.inputs := rfl

@[simp] theorem State.openSession_sess (s : State) : s.openSession.sess = .opened := rfl

@[simp] theorem State.openSession_busId (s : State) : s.openSession.busId = s.busId := rfl

@[simp] theorem State.openSession_devAddr (s : State) : s.openSession.devAddr = s.devAddr := rfl

@[simp] theorem State.openSession_cachedMode (s : State) : s.openSession.cachedMode = s.cachedMode := rfl

@[simp] theorem State.openSession_ph (s : State) : s.openSession.ph = s.ph := rfl

@[simp] theorem State.openSession_cur (s : State) : s.openSession.cur = s.cur := rfl

@[simp] theorem State.openSession_wb (s : State) : s.openSession.wb = s.wb := rfl

@[simp] theorem State.openSession_m0 (s : State) : s.openSession.m0 = s.m0 := rfl

@[simp] theorem State.openSession_rsp (s : State) : s.openSession.rsp = s.rsp := rfl

@[simp] theorem State.openSession_rspValid (s : State) : s.openSession.rspValid = s.rspValid := rfl

@[simp] theorem State.openSession_bus (s : State) : s.openSession.bus = s.bus := rfl

@[simp] theorem State.openSession_pendErr (s : State) : s.openSession.pendErr = s.pendErr := rfl

@[simp] theorem State.openSession_transcript (s : State) : s.openSession.transcript = s.transcript := rfl

@[simp] theorem State.openSession_responses (s : State) : s.openSession.responses = s.responses := rfl

/-! ### setBusId -/

@[simp] theorem State.setBusId_params (bus : BusId) (s : State) : (s.setBusId bus).params = s.params := rfl

@[simp] theorem State.setBusId_inputs (bus : BusId) (s : State) : (s.setBusId bus).inputs = s.inputs := rfl

@[simp] theorem State.setBusId_sess (bus : BusId) (s : State) : (s.setBusId bus).sess = s.sess := rfl

@[simp] theorem State.setBusId_busId (bus : BusId) (s : State) : (s.setBusId bus).busId = some bus := rfl

@[simp] theorem State.setBusId_devAddr (bus : BusId) (s : State) : (s.setBusId bus).devAddr = s.devAddr := rfl

@[simp] theorem State.setBusId_cachedMode (bus : BusId) (s : State) : (s.setBusId bus).cachedMode = s.cachedMode := rfl

@[simp] theorem State.setBusId_ph (bus : BusId) (s : State) : (s.setBusId bus).ph = s.ph := rfl

@[simp] theorem State.setBusId_cur (bus : BusId) (s : State) : (s.setBusId bus).cur = s.cur := rfl

@[simp] theorem State.setBusId_wb (bus : BusId) (s : State) : (s.setBusId bus).wb = s.wb := rfl

@[simp] theorem State.setBusId_m0 (bus : BusId) (s : State) : (s.setBusId bus).m0 = s.m0 := rfl

@[simp] theorem State.setBusId_rsp (bus : BusId) (s : State) : (s.setBusId bus).rsp = s.rsp := rfl

@[simp] theorem State.setBusId_rspValid (bus : BusId) (s : State) : (s.setBusId bus).rspValid = s.rspValid := rfl

@[simp] theorem State.setBusId_bus (bus : BusId) (s : State) : (s.setBusId bus).bus = s.bus := rfl

@[simp] theorem State.setBusId_pendErr (bus : BusId) (s : State) : (s.setBusId bus).pendErr = s.pendErr := rfl

@[simp] theorem State.setBusId_transcript (bus : BusId) (s : State) : (s.setBusId bus).transcript = s.transcript := rfl

@[simp] theorem State.setBusId_responses (bus : BusId) (s : State) : (s.setBusId bus).responses = s.responses := rfl

/-! ### setDevAddr -/

@[simp] theorem State.setDevAddr_params (addr : SlaveAddr) (s : State) : (s.setDevAddr addr).params = s.params := rfl

@[simp] theorem State.setDevAddr_inputs (addr : SlaveAddr) (s : State) : (s.setDevAddr addr).inputs = s.inputs := rfl

@[simp] theorem State.setDevAddr_sess (addr : SlaveAddr) (s : State) : (s.setDevAddr addr).sess = s.sess := rfl

@[simp] theorem State.setDevAddr_busId (addr : SlaveAddr) (s : State) : (s.setDevAddr addr).busId = s.busId := rfl

@[simp] theorem State.setDevAddr_devAddr (addr : SlaveAddr) (s : State) : (s.setDevAddr addr).devAddr = some addr := rfl

@[simp] theorem State.setDevAddr_cachedMode (addr : SlaveAddr) (s : State) : (s.setDevAddr addr).cachedMode = s.cachedMode := rfl

@[simp] theorem State.setDevAddr_ph (addr : SlaveAddr) (s : State) : (s.setDevAddr addr).ph = s.ph := rfl

@[simp] theorem State.setDevAddr_cur (addr : SlaveAddr) (s : State) : (s.setDevAddr addr).cur = s.cur := rfl

@[simp] theorem State.setDevAddr_wb (addr : SlaveAddr) (s : State) : (s.setDevAddr addr).wb = s.wb := rfl

@[simp] theorem State.setDevAddr_m0 (addr : SlaveAddr) (s : State) : (s.setDevAddr addr).m0 = s.m0 := rfl

@[simp] theorem State.setDevAddr_rsp (addr : SlaveAddr) (s : State) : (s.setDevAddr addr).rsp = s.rsp := rfl

@[simp] theorem State.setDevAddr_rspValid (addr : SlaveAddr) (s : State) : (s.setDevAddr addr).rspValid = s.rspValid := rfl

@[simp] theorem State.setDevAddr_bus (addr : SlaveAddr) (s : State) : (s.setDevAddr addr).bus = s.bus := rfl

@[simp] theorem State.setDevAddr_pendErr (addr : SlaveAddr) (s : State) : (s.setDevAddr addr).pendErr = s.pendErr := rfl

@[simp] theorem State.setDevAddr_transcript (addr : SlaveAddr) (s : State) : (s.setDevAddr addr).transcript = s.transcript := rfl

@[simp] theorem State.setDevAddr_responses (addr : SlaveAddr) (s : State) : (s.setDevAddr addr).responses = s.responses := rfl

/-! ### setCachedMode -/

@[simp] theorem State.setCachedMode_params (m : Mode) (s : State) : (s.setCachedMode m).params = s.params := rfl

@[simp] theorem State.setCachedMode_inputs (m : Mode) (s : State) : (s.setCachedMode m).inputs = s.inputs := rfl

@[simp] theorem State.setCachedMode_sess (m : Mode) (s : State) : (s.setCachedMode m).sess = s.sess := rfl

@[simp] theorem State.setCachedMode_busId (m : Mode) (s : State) : (s.setCachedMode m).busId = s.busId := rfl

@[simp] theorem State.setCachedMode_devAddr (m : Mode) (s : State) : (s.setCachedMode m).devAddr = s.devAddr := rfl

@[simp] theorem State.setCachedMode_cachedMode (m : Mode) (s : State) : (s.setCachedMode m).cachedMode = m := rfl

@[simp] theorem State.setCachedMode_ph (m : Mode) (s : State) : (s.setCachedMode m).ph = s.ph := rfl

@[simp] theorem State.setCachedMode_cur (m : Mode) (s : State) : (s.setCachedMode m).cur = s.cur := rfl

@[simp] theorem State.setCachedMode_wb (m : Mode) (s : State) : (s.setCachedMode m).wb = s.wb := rfl

@[simp] theorem State.setCachedMode_m0 (m : Mode) (s : State) : (s.setCachedMode m).m0 = s.m0 := rfl

@[simp] theorem State.setCachedMode_rsp (m : Mode) (s : State) : (s.setCachedMode m).rsp = s.rsp := rfl

@[simp] theorem State.setCachedMode_rspValid (m : Mode) (s : State) : (s.setCachedMode m).rspValid = s.rspValid := rfl

@[simp] theorem State.setCachedMode_bus (m : Mode) (s : State) : (s.setCachedMode m).bus = s.bus := rfl

@[simp] theorem State.setCachedMode_pendErr (m : Mode) (s : State) : (s.setCachedMode m).pendErr = s.pendErr := rfl

@[simp] theorem State.setCachedMode_transcript (m : Mode) (s : State) : (s.setCachedMode m).transcript = s.transcript := rfl

@[simp] theorem State.setCachedMode_responses (m : Mode) (s : State) : (s.setCachedMode m).responses = s.responses := rfl

/-! ### setM0 -/

@[simp] theorem State.setM0_params (m : Mode) (s : State) : (s.setM0 m).params = s.params := rfl

@[simp] theorem State.setM0_inputs (m : Mode) (s : State) : (s.setM0 m).inputs = s.inputs := rfl

@[simp] theorem State.setM0_sess (m : Mode) (s : State) : (s.setM0 m).sess = s.sess := rfl

@[simp] theorem State.setM0_busId (m : Mode) (s : State) : (s.setM0 m).busId = s.busId := rfl

@[simp] theorem State.setM0_devAddr (m : Mode) (s : State) : (s.setM0 m).devAddr = s.devAddr := rfl

@[simp] theorem State.setM0_cachedMode (m : Mode) (s : State) : (s.setM0 m).cachedMode = s.cachedMode := rfl

@[simp] theorem State.setM0_ph (m : Mode) (s : State) : (s.setM0 m).ph = s.ph := rfl

@[simp] theorem State.setM0_cur (m : Mode) (s : State) : (s.setM0 m).cur = s.cur := rfl

@[simp] theorem State.setM0_wb (m : Mode) (s : State) : (s.setM0 m).wb = s.wb := rfl

@[simp] theorem State.setM0_m0 (m : Mode) (s : State) : (s.setM0 m).m0 = some m := rfl

@[simp] theorem State.setM0_rsp (m : Mode) (s : State) : (s.setM0 m).rsp = s.rsp := rfl

@[simp] theorem State.setM0_rspValid (m : Mode) (s : State) : (s.setM0 m).rspValid = s.rspValid := rfl

@[simp] theorem State.setM0_bus (m : Mode) (s : State) : (s.setM0 m).bus = s.bus := rfl

@[simp] theorem State.setM0_pendErr (m : Mode) (s : State) : (s.setM0 m).pendErr = s.pendErr := rfl

@[simp] theorem State.setM0_transcript (m : Mode) (s : State) : (s.setM0 m).transcript = s.transcript := rfl

@[simp] theorem State.setM0_responses (m : Mode) (s : State) : (s.setM0 m).responses = s.responses := rfl

/-! ### setWb -/

@[simp] theorem State.setWb_params (b : Burst) (s : State) : (s.setWb b).params = s.params := rfl

@[simp] theorem State.setWb_inputs (b : Burst) (s : State) : (s.setWb b).inputs = s.inputs := rfl

@[simp] theorem State.setWb_sess (b : Burst) (s : State) : (s.setWb b).sess = s.sess := rfl

@[simp] theorem State.setWb_busId (b : Burst) (s : State) : (s.setWb b).busId = s.busId := rfl

@[simp] theorem State.setWb_devAddr (b : Burst) (s : State) : (s.setWb b).devAddr = s.devAddr := rfl

@[simp] theorem State.setWb_cachedMode (b : Burst) (s : State) : (s.setWb b).cachedMode = s.cachedMode := rfl

@[simp] theorem State.setWb_ph (b : Burst) (s : State) : (s.setWb b).ph = s.ph := rfl

@[simp] theorem State.setWb_cur (b : Burst) (s : State) : (s.setWb b).cur = s.cur := rfl

@[simp] theorem State.setWb_wb (b : Burst) (s : State) : (s.setWb b).wb = some b := rfl

@[simp] theorem State.setWb_m0 (b : Burst) (s : State) : (s.setWb b).m0 = s.m0 := rfl

@[simp] theorem State.setWb_rsp (b : Burst) (s : State) : (s.setWb b).rsp = s.rsp := rfl

@[simp] theorem State.setWb_rspValid (b : Burst) (s : State) : (s.setWb b).rspValid = s.rspValid := rfl

@[simp] theorem State.setWb_bus (b : Burst) (s : State) : (s.setWb b).bus = s.bus := rfl

@[simp] theorem State.setWb_pendErr (b : Burst) (s : State) : (s.setWb b).pendErr = s.pendErr := rfl

@[simp] theorem State.setWb_transcript (b : Burst) (s : State) : (s.setWb b).transcript = s.transcript := rfl

@[simp] theorem State.setWb_responses (b : Burst) (s : State) : (s.setWb b).responses = s.responses := rfl

/-! ### startCleanup -/

@[simp] theorem State.startCleanup_params (e : Status) (k : StepId) (s : State) : (s.startCleanup e k).params = s.params := rfl

@[simp] theorem State.startCleanup_inputs (e : Status) (k : StepId) (s : State) : (s.startCleanup e k).inputs = s.inputs := rfl

@[simp] theorem State.startCleanup_sess (e : Status) (k : StepId) (s : State) : (s.startCleanup e k).sess = s.sess := rfl

@[simp] theorem State.startCleanup_busId (e : Status) (k : StepId) (s : State) : (s.startCleanup e k).busId = s.busId := rfl

@[simp] theorem State.startCleanup_devAddr (e : Status) (k : StepId) (s : State) : (s.startCleanup e k).devAddr = s.devAddr := rfl

@[simp] theorem State.startCleanup_cachedMode (e : Status) (k : StepId) (s : State) : (s.startCleanup e k).cachedMode = s.cachedMode := rfl

@[simp] theorem State.startCleanup_ph (e : Status) (k : StepId) (s : State) : (s.startCleanup e k).ph = .busy .release := rfl

@[simp] theorem State.startCleanup_cur (e : Status) (k : StepId) (s : State) : (s.startCleanup e k).cur = s.cur := rfl

@[simp] theorem State.startCleanup_wb (e : Status) (k : StepId) (s : State) : (s.startCleanup e k).wb = s.wb := rfl

@[simp] theorem State.startCleanup_m0 (e : Status) (k : StepId) (s : State) : (s.startCleanup e k).m0 = s.m0 := rfl

@[simp] theorem State.startCleanup_rsp (e : Status) (k : StepId) (s : State) : (s.startCleanup e k).rsp = s.rsp := rfl

@[simp] theorem State.startCleanup_rspValid (e : Status) (k : StepId) (s : State) : (s.startCleanup e k).rspValid = s.rspValid := rfl

@[simp] theorem State.startCleanup_bus (e : Status) (k : StepId) (s : State) : (s.startCleanup e k).bus = some .release := rfl

@[simp] theorem State.startCleanup_pendErr (e : Status) (k : StepId) (s : State) : (s.startCleanup e k).pendErr = some { status := e, step := k } := rfl

@[simp] theorem State.startCleanup_transcript (e : Status) (k : StepId) (s : State) : (s.startCleanup e k).transcript = s.transcript := rfl

@[simp] theorem State.startCleanup_responses (e : Status) (k : StepId) (s : State) : (s.startCleanup e k).responses = s.responses := rfl

end Sys2Proof.Machine
end

