-- ==== Sys2Proof/Laws/Ops.lean ====
section
/-! SUPPORT. One lemma per shared operation that says everything it can do: when it answers a next state, which, and what
held before. Callers cite these and do not unfold the operation. -/

namespace Sys2Proof.Machine

/-! ### Accepting and answering -/

/-- An accepting step in IDLE. -/
theorem onAccept_idle {s : State} {f : State → Out} (h : s.ph = .idle) : s.onAccept f = f s := by
  simp [State.onAccept, h]

/-- An accepting step answers a next state only in IDLE. -/
theorem onAccept_next {s t : State} {f : State → Out} (h : s.onAccept f = .next t) : s.ph = .idle ∧ f s = .next t := by
  unfold State.onAccept at h
  split at h
  · exact ⟨‹_›, h⟩
  · cases h

/-- An accepting step faults as its command does, or because the block is BUSY. -/
theorem onAccept_fault {s : State} {f : State → Out} {e : Fault} (h : s.onAccept f = .fault e) :
    (s.ph = .idle ∧ f s = .fault e) ∨ (s.ph ≠ .idle ∧ e = .phaseMismatch) := by
  unfold State.onAccept at h
  split at h
  · exact .inl ⟨‹_›, h⟩
  · rename_i k hk
    cases h
    exact .inr ⟨by simp [hk], rfl⟩

/-- An answer of the right shape is taken. -/
theorem onAnswer_answer {s : State} {k : StepId} {f : Answer → State → Out} {t : Transaction} {a : Answer}
    {rest : List Input} (hb : s.bus = some t) (hi : s.inputs = .answer a :: rest) (ht : t.admits a = true) :
    s.onAnswer k f = f a (s.takeAnswer t a) := by
  simp [State.onAnswer, hb, hi, ht]

/-- An answer step answers a next state only by taking an answer of the right shape. -/
theorem onAnswer_next {s t : State} {k : StepId} {f : Answer → State → Out} (h : s.onAnswer k f = .next t) :
    ∃ tx a rest, s.bus = some tx ∧ s.inputs = .answer a :: rest ∧ tx.admits a = true ∧ f a (s.takeAnswer tx a) = .next t := by
  unfold State.onAnswer at h
  split at h
  · cases h
  · split at h
    · exact ⟨_, _, _, ‹_›, ‹_›, ‹_›, h⟩
    · cases h
  · cases h

/-- Why an answer step faults. -/
theorem onAnswer_fault {s : State} {k : StepId} {f : Answer → State → Out} {e : Fault} (h : s.onAnswer k f = .fault e) :
    (s.bus = none ∧ e = .phaseMismatch) ∨ e = .answerShape ∨
      (e = .awaitingAnswer k ∧ ∀ a rest, s.inputs ≠ .answer a :: rest) ∨
      ∃ tx a rest, s.bus = some tx ∧ s.inputs = .answer a :: rest ∧ tx.admits a = true ∧
        f a (s.takeAnswer tx a) = .fault e := by
  unfold State.onAnswer at h
  split at h
  · cases h
    exact .inl ⟨‹_›, rfl⟩
  · split at h
    · exact .inr (.inr (.inr ⟨_, _, _, ‹_›, ‹_›, ‹_›, h⟩))
    · cases h
      exact .inr (.inl rfl)
  · rename_i hn
    cases h
    exact .inr (.inr (.inl ⟨rfl, fun a rest hi => hn a rest hi⟩))

/-! ### Answer shapes (20_memory.md R35) -/

/-- FAIL is an answer to every transaction. -/
@[simp] theorem admits_fail (t : Transaction) : t.admits .fail = true := by cases t <;> rfl

/-- A one-byte read answered without FAIL gives one byte. -/
theorem admits_read_one {a : Answer} (h : (Transaction.read 1).admits a = true) (ha : a ≠ .fail) :
    ∃ b, a = .okBytes [b] := by
  cases a with
  | fail => exact absurd rfl ha
  | ok => cases h
  | okBytes bs =>
    simp only [Transaction.admits, decide_eq_true_eq] at h
    obtain ⟨b, rfl⟩ := List.length_eq_one_iff.mp h
    exact ⟨b, rfl⟩

/-- A burst read answered without FAIL gives six bytes. -/
theorem admits_read_burst {a : Answer} (h : (Transaction.read Config.burstLen).admits a = true) (ha : a ≠ .fail) :
    ∃ b0 b1 b2 b3 b4 b5, a = .okBytes [b0, b1, b2, b3, b4, b5] := by
  cases a with
  | fail => exact absurd rfl ha
  | ok => cases h
  | okBytes bs =>
    simp only [Transaction.admits, Config.burstLen] at h
    match bs, of_decide_eq_true h with
    | [b0, b1, b2, b3, b4, b5], _ => exact ⟨b0, b1, b2, b3, b4, b5, rfl⟩

/-- A write, a bind, an acquire or a release answered without FAIL is answered OK. -/
theorem admits_ok {t : Transaction} {a : Answer} (h : t.admits a = true) (ha : a ≠ .fail) (hr : ∀ n, t ≠ .read n) :
    a = .ok := by
  cases t <;> cases a <;> simp_all [Transaction.admits]

/-! ### The parts of session commands -/

/-- A mode byte taken. -/
@[simp] theorem testModeByte_byte (b : Byte) (s : State) (f : Mode → Byte → State → Out) :
    s.testModeByte (.okBytes [b]) f = f (decodeMode b) b (s.setCachedMode (decodeMode b)) := rfl

/-- A mode byte is taken only from an answer of one byte. -/
theorem testModeByte_next {s t : State} {a : Answer} {f : Mode → Byte → State → Out}
    (h : s.testModeByte a f = .next t) :
    ∃ b, a = .okBytes [b] ∧ f (decodeMode b) b (s.setCachedMode (decodeMode b)) = .next t := by
  unfold State.testModeByte at h
  split at h
  · exact ⟨_, rfl, h⟩
  · cases h

/-- A mode byte never decodes to NONE (40_register_map.md R77). -/
theorem decodeMode_ne_noBelief (b : Byte) : decodeMode b ≠ .noBelief := by
  unfold decodeMode
  split <;> simp

/-- Step 2 of Configure right after `M0` is written. -/
theorem configureQuiesce_setM0 (m : Mode) (s : State) :
    (s.setM0 m).configureQuiesce =
      if m = .standby then .next (s.setM0 m).configureActivate
      else .next ((s.setM0 m).issue .cr1StandbyWrite (regWrite Reg.ctrlReg1.addr cr1StandbyImg)) := rfl

/-- The sample delivered right after `WB` is written. -/
@[simp] theorem deliverSample_setWb (b : Burst) (s : State) :
    (s.setWb b).deliverSample = .next ((s.setWb b).done (sampleData (reassemble b))) := rfl

/-- The end of a cleanup. -/
theorem endCleanup_some {s : State} {e : PendingError} (h : s.pendErr = some e) :
    s.endCleanup = .next (s.clearSession.respond e.status e.step 0) := by
  simp [State.endCleanup, h]

/-- A cleanup ends only with an error pending. -/
theorem endCleanup_next {s t : State} (h : s.endCleanup = .next t) :
    ∃ e, s.pendErr = some e ∧ t = s.clearSession.respond e.status e.step 0 := by
  unfold State.endCleanup at h
  split at h
  · cases h
  · cases h
    exact ⟨_, ‹_›, rfl⟩

/-! ### Steps -/

/-- What a step does, by its next input. -/
theorem step_nil {s : State} (h : s.inputs = []) : step s = hold s.ph := by
  simp [step, sequenceStep, h]

/-- Reset is taken at once, in every state. -/
theorem step_reset {s : State} {rest : List Input} (h : s.inputs = .reset :: rest) : step s = .next s.resetBlock := by
  simp [step, sequenceStep, h]

/-- A late answer has no effect. -/
theorem step_lateAnswer {s : State} {a : Answer} {rest : List Input} (h : s.inputs = .lateAnswer a :: rest) :
    step s = .next s.dropInput := by
  simp [step, sequenceStep, h]

/-- A word presented in IDLE is accepted. -/
theorem step_command {s : State} {w : Word} {rest : List Input} (h : s.inputs = .command w :: rest) (hp : s.ph = .idle) :
    step s = acceptWord w (s.accept w) := by
  simp [step, sequenceStep, h, hp]

/-- A word presented in BUSY has no effect. -/
theorem step_command_busy {s : State} {w : Word} {rest : List Input} {k : StepId} (h : s.inputs = .command w :: rest)
    (hp : s.ph = .busy k) : step s = .next s.dropInput := by
  simp [step, sequenceStep, h, hp]

/-- An answer in BUSY goes to the command in `CUR`. -/
theorem step_answer {s : State} {a : Answer} {rest : List Input} {k : StepId} (h : s.inputs = .answer a :: rest)
    (hp : s.ph = .busy k) : step s = answerStep s := by
  simp [step, sequenceStep, h, hp]

/-- An answer in IDLE has no effect. -/
theorem step_answer_idle {s : State} {a : Answer} {rest : List Input} (h : s.inputs = .answer a :: rest)
    (hp : s.ph = .idle) : step s = .next s.dropInput := by
  simp [step, sequenceStep, h, hp]

/-- Everything a step that answers a next state can be: a reset, an input without effect, the acceptance of a word, or
the answer step of the command in `CUR`. -/
theorem step_next {s t : State} (h : step s = .next t) :
    (t = s.resetBlock ∧ ∃ rest, s.inputs = .reset :: rest) ∨
      (t = s.dropInput ∧ ∃ rest, (∃ a, s.inputs = .lateAnswer a :: rest) ∨
        (∃ k w, s.ph = .busy k ∧ s.inputs = .command w :: rest) ∨ ∃ a, s.ph = .idle ∧ s.inputs = .answer a :: rest) ∨
      (∃ w rest, s.ph = .idle ∧ s.inputs = .command w :: rest ∧ acceptWord w (s.accept w) = .next t) ∨
      ∃ k a rest w i, s.ph = .busy k ∧ s.inputs = .answer a :: rest ∧ s.cur = some w ∧ decode w = .ok i ∧
        exec i s = .next t := by
  unfold step sequenceStep at h
  split at h
  · unfold hold at h
    split at h <;> cases h
  · cases h
    exact .inl ⟨rfl, _, ‹_›⟩
  · cases h
    exact .inr (.inl ⟨rfl, _, .inl ⟨_, ‹_›⟩⟩)
  · split at h
    · exact .inr (.inr (.inl ⟨_, _, ‹_›, ‹_›, h⟩))
    · cases h
      exact .inr (.inl ⟨rfl, _, .inr (.inl ⟨_, _, ‹_›, ‹_›⟩)⟩)
  · split at h
    · cases h
      exact .inr (.inl ⟨rfl, _, .inr (.inr ⟨_, ‹_›, ‹_›⟩)⟩)
    · unfold answerStep at h
      split at h
      · cases h
      · split at h
        · exact .inr (.inr (.inr ⟨_, _, _, _, _, ‹_›, ‹_›, ‹_›, ‹_›, h⟩))
        · cases h

/-- `n + 1` steps: one, then `n`. -/
theorem runSteps_succ {n : Nat} {s t : State} (h : step s = .next t) : runSteps (n + 1) s = runSteps n t := by
  have hs : Sys2Proof.core.step s = .next t := h
  simp only [runSteps, Host.Core.run]
  rw [hs]

/-- No steps. -/
@[simp] theorem runSteps_zero (s : State) : runSteps 0 s = .next s := rfl

/-! ### The assembler -/

/-- A key that a line omits has its default value. -/
theorem AsmLine.value_of_omitted {l : AsmLine} {k : AsmKey} (h : ∀ a ∈ l.args, a.1 ≠ k) :
    l.value k = asmDefault k := by
  have : l.args.find? (fun a => decide (a.1 = k)) = none := by simpa [List.find?_eq_none] using h
  simp [AsmLine.value, this]

end Sys2Proof.Machine
end

