-- ==== Sys2Proof/Laws/Exec.lean ====
section
/-! SUPPORT. Everything a step of a command can do, said once: an accepting step (`exec_idle_next`) and an answer step
(`exec_busy_next`). A proof over all commands cites these two and never unfolds `exec`. -/

namespace Sys2Proof.Machine

/-! ### Whole-state equations -/

/-- The next input taken, in the words of Safety.lean. -/
theorem dropInput_eq {s : State} {x : Input} {rest : List Input} (h : s.inputs = x :: rest) :
    s.dropInput = { s with inputs := rest } := by
  simp [State.dropInput, h]

/-- A word accepted, in the words of Safety.lean. -/
theorem accept_eq {s : State} {x : Input} {w : Word} {rest : List Input} (h : s.inputs = x :: rest) :
    s.accept w = s.accepted w rest := by
  simp [State.accept, State.accepted, h]

/-- A response in a quiet state writes the response alone. -/
theorem respond_quiet {s : State} (h : s.Quiet) (e : Status) (k : StepId) (d : Data) :
    s.respond e k d = s.answered { status := e, step := k, data := d } := by
  obtain ⟨hp, hb, he⟩ := h
  cases s
  simp_all [State.respond, State.answered]

/-- A command that completes in a quiet state writes the response alone. -/
theorem done_quiet {s : State} (h : s.Quiet) (d : Data) : s.done d = s.answered (okResponse d) := respond_quiet h _ _ _

/-- An error in a quiet state writes the response alone. -/
theorem raise_quiet {s : State} (h : s.Quiet) (e : Status) (k : StepId) :
    s.raise e k = s.answered (errorResponse e k) := respond_quiet h _ _ _

/-! ### Steps and their transactions -/

/-- A step that has a transaction is a transaction's step (60_exceptions.md R111). -/
theorem stepTransaction_isTransaction {p : Params} {i : Instr} {k : StepId} {t : Transaction}
    (h : stepTransaction p i k = some t) : k.isTransaction = true := by
  cases k <;> first | rfl | (cases i <;> cases h)

/-- OPEN's answer step, at every step but the release. -/
theorem exec_open_busy {s : State} {k : StepId} {bus : BusId} {addr : SlaveAddr} (hp : s.ph = .busy k)
    (hk : k ≠ .release) :
    exec (.openSession bus addr) s =
      s.onAnswer k fun a s => if a = .fail then .next (s.failOpen .ioError k) else openOk addr k a s := by
  simp only [exec, execOpen, hp]

/-- OPEN's answer step at the cleanup release. -/
theorem exec_open_release {s : State} {bus : BusId} {addr : SlaveAddr} (hp : s.ph = .busy .release) :
    exec (.openSession bus addr) s = s.onAnswer .release fun _ s => s.endCleanup := by
  simp only [exec, execOpen, hp]

/-! ### Accepting steps -/

/-- A Register Map command answers a next state only in IDLE, and only by a response. -/
theorem exec_rmu_next {i : Instr} {s t : State} (hi : isRmu i = true) (h : exec i s = .next t) :
    s.ph = .idle ∧ ∃ e d, (e = .ok ∨ e = .invalidArgument ∧ d = 0) ∧ t = s.respond e .noStep d := by
  cases i <;> simp only [isRmu, Bool.false_eq_true] at hi <;>
   simp only [exec, execRegAddr, execPackCr1, execUnpackCr1, execPackCr2, execUnpackCr2, execDecodeMode, execGetState] at h <;>
   obtain ⟨hp, h⟩ := onAccept_next h <;> refine ⟨hp, ?_⟩
  all_goals repeat' split at h
  all_goals first
    | exact ⟨_, _, .inl rfl, (Host.Outcome.next.inj h).symm⟩
    | exact ⟨_, _, .inr ⟨rfl, rfl⟩, (Host.Outcome.next.inj h).symm⟩
    | cases h

/-- What an accepting step can do: respond at once (with no transaction's error), or issue the command's first
transaction, having checked the session (and OPEN having written `BUS_ID`). -/
inductive AcceptCase : Instr → State → State → Prop
  | respond (i : Instr) (s : State) (e : Status) (d : Data) (hd : e = .ok ∧ isRmu i = true ∨ e ≠ .ok ∧ d = 0)
      (he : e = .ok ∨ e = .invalidArgument ∨ e = .notOpen ∧ s.sess = .closed ∨ e = .alreadyOpen ∧ s.sess = .opened) :
      AcceptCase i s (s.respond e .noStep d)
  | openSession (bus : BusId) (addr : SlaveAddr) (s : State) (hs : s.sess = .closed) :
      AcceptCase (.openSession bus addr) s ((s.setBusId bus).issue .acquire (.acquire bus))
  | testMode (s : State) (hs : s.sess = .opened) :
      AcceptCase .testMode s (s.issue .modeAddrWrite (addrWrite (modeRegAddr s.params.modeReg)))
  | readSample (dv : BitVec 3) (s : State) (hs : s.sess = .opened) (hd : allDestinations dv = true) :
      AcceptCase (.readSample dv) s (s.issue .sampleAddrWrite (addrWrite Reg.outXMsb.addr))
  | closeSession (s : State) (hs : s.sess = .opened) : AcceptCase .closeSession s (s.issue .release .release)

/-- Everything an accepting step can do. -/
theorem exec_idle_next {i : Instr} {s t : State} (hp : s.ph = .idle) (h : exec i s = .next t) : AcceptCase i s t := by
  cases hr : isRmu i with
  | true =>
    obtain ⟨-, e, d, he, rfl⟩ := exec_rmu_next hr h
    refine .respond i s e d ?_ ?_ <;> rcases he with rfl | ⟨rfl, rfl⟩ <;> simp [hr]
  | false =>
    cases i <;> simp only [isRmu, Bool.true_eq_false] at hr
    case openSession bus addr =>
      simp only [exec, execOpen, hp] at h
      split at h <;> cases h
      · exact .respond _ s _ _ (by simp) (by simp [*])
      · exact .openSession bus addr s ‹_›
    case testMode =>
      simp only [exec, execTestMode, hp] at h
      split at h <;> cases h
      · exact .respond _ s _ _ (by simp) (by simp [*])
      · exact .testMode s ‹_›
    case readSample dv =>
      simp only [exec, execReadSample, hp] at h
      split at h
      · split at h <;> cases h
        · exact .respond _ s _ _ (by simp) (by simp [*])
        · exact .readSample dv s ‹_› ‹_›
      · cases h
        exact .respond _ s _ _ (by simp) (by simp)
    case closeSession =>
      simp only [exec, execClose, hp] at h
      split at h <;> cases h
      · exact .respond _ s _ _ (by simp) (by simp [*])
      · exact .closeSession s ‹_›

/-! ### Answer steps -/

/-- What an answer step can do, from the state in which the answer is taken. -/
inductive AnswerCase : Instr → StepId → Answer → State → State → Prop
  /-- OPEN's cleanup release is answered. -/
  | cleaned (bus : BusId) (addr : SlaveAddr) (a : Answer) (s : State) (e : PendingError) (he : s.pendErr = some e) :
      AnswerCase (.openSession bus addr) .release a s (s.clearSession.respond e.status e.step 0)
  /-- OPEN's acquire fails. -/
  | acquireFailed (bus : BusId) (addr : SlaveAddr) (s : State) :
      AnswerCase (.openSession bus addr) .acquire .fail s (s.clearSession.respond .ioError .acquire 0)
  /-- A later transaction of OPEN fails. -/
  | openFailed (bus : BusId) (addr : SlaveAddr) (k : StepId) (s : State) (ha : k ≠ .acquire) (hr : k ≠ .release) :
      AnswerCase (.openSession bus addr) k .fail s (s.startCleanup .ioError k)
  | acquired (bus : BusId) (addr : SlaveAddr) (a : Answer) (s : State) (ha : a ≠ .fail) :
      AnswerCase (.openSession bus addr) .acquire a s ((s.setDevAddr addr).issue .bind (.bind addr))
  | bound (bus : BusId) (addr : SlaveAddr) (a : Answer) (s : State) (ha : a ≠ .fail) :
      AnswerCase (.openSession bus addr) .bind a s (s.issue .modeAddrWrite (addrWrite (modeRegAddr s.params.modeReg)))
  | modeAddressed (bus : BusId) (addr : SlaveAddr) (a : Answer) (s : State) (ha : a ≠ .fail) :
      AnswerCase (.openSession bus addr) .modeAddrWrite a s (s.issue .modeRead (.read 1))
  /-- The mode read in Configure step 1 is STANDBY. -/
  | modeStandby (bus : BusId) (addr : SlaveAddr) (b : Byte) (s : State) (hm : decodeMode b = .standby) :
      AnswerCase (.openSession bus addr) .modeRead (.okBytes [b]) s
        (((s.setCachedMode .standby).setM0 .standby).issue .cr1ActiveWrite (regWrite Reg.ctrlReg1.addr cr1ActiveImg))
  /-- The mode read in Configure step 1 is another. -/
  | modeOther (bus : BusId) (addr : SlaveAddr) (b : Byte) (s : State) (hm : decodeMode b ≠ .standby) :
      AnswerCase (.openSession bus addr) .modeRead (.okBytes [b]) s
        (((s.setCachedMode (decodeMode b)).setM0 (decodeMode b)).issue .cr1StandbyWrite
          (regWrite Reg.ctrlReg1.addr cr1StandbyImg))
  | standbyForced (bus : BusId) (addr : SlaveAddr) (a : Answer) (s : State) (ha : a ≠ .fail) :
      AnswerCase (.openSession bus addr) .cr1StandbyWrite a s
        (s.issue .cr2Write (regWrite Reg.ctrlReg2.addr (cr2Img s.params)))
  | cr2Set (bus : BusId) (addr : SlaveAddr) (a : Answer) (s : State) (ha : a ≠ .fail) :
      AnswerCase (.openSession bus addr) .cr2Write a s
        (s.issue .cr1ActiveWrite (regWrite Reg.ctrlReg1.addr cr1ActiveImg))
  | activated (bus : BusId) (addr : SlaveAddr) (a : Answer) (s : State) (ha : a ≠ .fail) :
      AnswerCase (.openSession bus addr) .cr1ActiveWrite a s
        (s.issue .confirmAddrWrite (addrWrite (modeRegAddr s.params.modeReg)))
  | confirmAddressed (bus : BusId) (addr : SlaveAddr) (a : Answer) (s : State) (ha : a ≠ .fail) :
      AnswerCase (.openSession bus addr) .confirmAddrWrite a s (s.issue .confirmRead (.read 1))
  /-- OPEN commits. -/
  | committed (bus : BusId) (addr : SlaveAddr) (b : Byte) (s : State) (hm : (decodeMode b).isActive = true) :
      AnswerCase (.openSession bus addr) .confirmRead (.okBytes [b]) s
        ((s.setCachedMode (decodeMode b)).openSession.respond .ok .noStep (modeData (decodeMode b)))
  /-- The confirmed mode is not an active one. -/
  | notConfirmed (bus : BusId) (addr : SlaveAddr) (b : Byte) (s : State) (hm : (decodeMode b).isActive = false) :
      AnswerCase (.openSession bus addr) .confirmRead (.okBytes [b]) s
        ((s.setCachedMode (decodeMode b)).startCleanup .configError .confirmMode)
  /-- A transaction of TEST_MODE or READ_SAMPLE fails. -/
  | failed (i : Instr) (k : StepId) (s : State) (hi : i = .testMode ∨ ∃ dv, i = .readSample dv) :
      AnswerCase i k .fail s (s.respond .ioError k 0)
  | testAddressed (a : Answer) (s : State) (ha : a ≠ .fail) :
      AnswerCase .testMode .modeAddrWrite a s (s.issue .modeRead (.read 1))
  | testDone (b : Byte) (s : State) :
      AnswerCase .testMode .modeRead (.okBytes [b]) s
        ((s.setCachedMode (decodeMode b)).respond .ok .noStep (testModeData (decodeMode b) b))
  | sampleAddressed (dv : BitVec 3) (a : Answer) (s : State) (ha : a ≠ .fail) :
      AnswerCase (.readSample dv) .sampleAddrWrite a s (s.issue .sampleRead (.read Config.burstLen))
  | sampleDone (dv : BitVec 3) (b0 b1 b2 b3 b4 b5 : Byte) (s : State) :
      AnswerCase (.readSample dv) .sampleRead (.okBytes [b0, b1, b2, b3, b4, b5]) s
        ((s.setWb { b0 := b0, b1 := b1, b2 := b2, b3 := b3, b4 := b4, b5 := b5 }).respond .ok .noStep
          (sampleData (reassemble { b0 := b0, b1 := b1, b2 := b2, b3 := b3, b4 := b4, b5 := b5 })))
  | closeFailed (s : State) : AnswerCase .closeSession .release .fail s (s.clearSession.respond .ioError .release 0)
  | closed (a : Answer) (s : State) (ha : a ≠ .fail) :
      AnswerCase .closeSession .release a s (s.clearSession.respond .ok .noStep 0)

/-- Everything OPEN does with an answer that is not FAIL, at every step but the release. -/
theorem openOk_next {bus : BusId} {addr : SlaveAddr} {k : StepId} {a : Answer} {s t : State} (ha : a ≠ .fail)
    (h : openOk addr k a s = .next t) : AnswerCase (.openSession bus addr) k a s t := by
  cases k <;> simp only [openOk, reduceCtorEq] at h
  case acquire => cases h; exact .acquired bus addr a s ha
  case bind => cases h; exact .bound bus addr a s ha
  case modeAddrWrite => cases h; exact .modeAddressed bus addr a s ha
  case modeRead =>
    obtain ⟨b, rfl, hb⟩ := testModeByte_next h
    rw [configureQuiesce_setM0] at hb
    split at hb
    · rename_i hm
      cases hb
      rw [hm]
      exact .modeStandby bus addr b s hm
    · cases hb
      exact .modeOther bus addr b s ‹_›
  case cr1StandbyWrite => cases h; exact .standbyForced bus addr a s ha
  case cr2Write => cases h; exact .cr2Set bus addr a s ha
  case cr1ActiveWrite => cases h; exact .activated bus addr a s ha
  case confirmAddrWrite => cases h; exact .confirmAddressed bus addr a s ha
  case confirmRead =>
    obtain ⟨b, rfl, hb⟩ := testModeByte_next h
    cases hb
    unfold State.configureConfirm
    split
    · exact .committed bus addr b s ‹_›
    · rename_i hm
      exact .notConfirmed bus addr b s (by simpa using hm)

/-- Everything TEST_MODE does with an answer that is not FAIL. -/
theorem testModeOk_next {k : StepId} {a : Answer} {s t : State} (ha : a ≠ .fail) (h : testModeOk k a s = .next t) :
    AnswerCase .testMode k a s t := by
  cases k <;> simp only [testModeOk, reduceCtorEq] at h
  case modeAddrWrite => cases h; exact .testAddressed a s ha
  case modeRead =>
    obtain ⟨b, rfl, hb⟩ := testModeByte_next h
    cases hb
    exact .testDone b s

/-- Everything READ_SAMPLE does with an answer that is not FAIL. -/
theorem readSampleOk_next {dv : BitVec 3} {k : StepId} {a : Answer} {s t : State} (ha : a ≠ .fail)
    (h : readSampleOk k a s = .next t) : AnswerCase (.readSample dv) k a s t := by
  unfold readSampleOk at h
  split at h <;> cases h
  · exact .sampleAddressed dv a s ha
  · exact .sampleDone dv _ _ _ _ _ _ s

/-- Everything an answer step can do. -/
theorem exec_busy_next {i : Instr} {s t : State} {k : StepId} (hp : s.ph = .busy k) (h : exec i s = .next t) :
    ∃ tx a rest, s.bus = some tx ∧ s.inputs = .answer a :: rest ∧ tx.admits a = true ∧
      AnswerCase i k a (s.takeAnswer tx a) t := by
  cases hr : isRmu i with
  | true =>
    have hi := (exec_rmu_next hr h).1
    rw [hp] at hi
    cases hi
  | false =>
    cases i <;> simp only [isRmu, Bool.true_eq_false] at hr
    case openSession bus addr =>
      by_cases hk : k = .release
      · subst hk
        rw [exec_open_release hp] at h
        obtain ⟨tx, a, rest, hb, hi, ht, h⟩ := onAnswer_next h
        obtain ⟨e, he, rfl⟩ := endCleanup_next h
        exact ⟨tx, a, rest, hb, hi, ht, .cleaned bus addr a _ e he⟩
      · rw [exec_open_busy hp hk] at h
        obtain ⟨tx, a, rest, hb, hi, ht, h⟩ := onAnswer_next h
        refine ⟨tx, a, rest, hb, hi, ht, ?_⟩
        split at h
        · subst a
          cases h
          unfold State.failOpen
          split
          · subst k
            exact .acquireFailed bus addr _
          · exact .openFailed bus addr k _ ‹_› hk
        · exact openOk_next ‹_› h
    case testMode =>
      simp only [exec, execTestMode, hp] at h
      obtain ⟨tx, a, rest, hb, hi, ht, h⟩ := onAnswer_next h
      refine ⟨tx, a, rest, hb, hi, ht, ?_⟩
      split at h
      · subst a
        cases h
        exact .failed _ k _ (.inl rfl)
      · exact testModeOk_next ‹_› h
    case readSample dv =>
      simp only [exec, execReadSample, hp] at h
      obtain ⟨tx, a, rest, hb, hi, ht, h⟩ := onAnswer_next h
      refine ⟨tx, a, rest, hb, hi, ht, ?_⟩
      split at h
      · subst a
        cases h
        exact .failed _ k _ (.inr ⟨dv, rfl⟩)
      · exact readSampleOk_next ‹_› h
    case closeSession =>
      by_cases hk : k = .release
      · subst hk
        simp only [exec, execClose, hp] at h
        obtain ⟨tx, a, rest, hb, hi, ht, h⟩ := onAnswer_next h
        refine ⟨tx, a, rest, hb, hi, ht, ?_⟩
        cases h
        unfold State.closeAnswered
        split
        · subst a
          exact .closeFailed _
        · exact .closed a _ ‹_›
      · simp only [exec, execClose, hp] at h
        cases h

/-- Everything a step that answers a next state can be. -/
theorem step_cases {s t : State} (h : step s = .next t) :
    (t = s.resetBlock ∧ ∃ rest, s.inputs = .reset :: rest) ∨
      (t = s.dropInput ∧ ∃ rest, (∃ a, s.inputs = .lateAnswer a :: rest) ∨
        (∃ k w, s.ph = .busy k ∧ s.inputs = .command w :: rest) ∨ ∃ a, s.ph = .idle ∧ s.inputs = .answer a :: rest) ∨
      (∃ w rest, s.ph = .idle ∧ s.inputs = .command w :: rest ∧
        ((∃ e, decode w = .error e ∧ t = (s.accept w).respond .illegalCommand .noStep 0) ∨
          ∃ i, decode w = .ok i ∧ AcceptCase i (s.accept w) t)) ∨
      ∃ k tx a rest w i, s.ph = .busy k ∧ s.bus = some tx ∧ s.inputs = .answer a :: rest ∧ tx.admits a = true ∧
        s.cur = some w ∧ decode w = .ok i ∧ AnswerCase i k a (s.takeAnswer tx a) t := by
  rcases step_next h with h | h | ⟨w, rest, hp, hi, h⟩ | ⟨k, a, rest, w, i, hp, hi, hc, hd, h⟩
  · exact .inl h
  · exact .inr (.inl h)
  · refine .inr (.inr (.inl ⟨w, rest, hp, hi, ?_⟩))
    unfold acceptWord at h
    split at h
    · exact .inr ⟨_, ‹_›, exec_idle_next hp h⟩
    · cases h
      exact .inl ⟨_, ‹_›, rfl⟩
  · obtain ⟨tx, a, rest, hb, hi, ht, h⟩ := exec_busy_next hp h
    exact .inr (.inr (.inr ⟨k, tx, a, rest, w, i, hp, hb, hi, ht, hc, hd, h⟩))

/-! ### Runs -/

/-- The first step of a run that accepts a command. -/
theorem runSteps_command {n : Nat} {s t : State} {w : Word} {rest : List Input} {i : Instr} (hp : s.ph = .idle)
    (hi : s.inputs = .command w :: rest) (hd : decode w = .ok i) (h : exec i (s.accepted w rest) = .next t) :
    runSteps (n + 1) s = runSteps n t := by
  refine runSteps_succ ?_
  rw [step_command hi hp, accept_eq hi, acceptWord, hd]
  exact h

/-- The first step of a run that takes an answer. -/
theorem runSteps_answer {n : Nat} {s t : State} {k : StepId} {a : Answer} {rest : List Input} {w : Word} {i : Instr}
    (hp : s.ph = .busy k) (hi : s.inputs = .answer a :: rest) (hc : s.cur = some w) (hd : decode w = .ok i)
    (h : exec i s = .next t) : runSteps (n + 1) s = runSteps n t := by
  refine runSteps_succ ?_
  rw [step_answer hi hp]
  simp only [answerStep, hc, hd, h]

/-! ### The words of Safety.lean -/

/-- An IDLE state that meets the invariant is quiet. -/
theorem quiet_of_inv {s : State} (h : Inv s) (hp : s.ph = .idle) : s.Quiet := ⟨hp, (h.idle hp).1, (h.idle hp).2⟩

/-- One more transaction in the transcript. -/
theorem busPhaseFrom_append (p : BusPhase) (xs : List (Transaction × Answer)) (t : Transaction) (a : Answer) :
    busPhaseFrom p (xs ++ [(t, a)]) = (busPhaseFrom p xs).bind fun q => busNext q t a := by
  induction xs generalizing p with
  | nil =>
    simp only [busPhaseFrom, List.nil_append, Option.bind]
    split <;> simp [*]
  | cons x xs ih =>
    obtain ⟨t', a'⟩ := x
    simp only [List.cons_append, busPhaseFrom]
    split
    · rfl
    · exact ih _

end Sys2Proof.Machine
end

