-- ==== Sys2Proof/Laws/PerInstr.lean ====
section
/-! SUPPORT. Facts about every command as syntax, one lemma per constructor: the family `WordHalves` says that a command's
word is its opcode above its argument, neither disturbing the other (30_encoding.md R50). -/

namespace Sys2Proof

/-- The opcode of an encoded command (30_encoding.md R50). -/
theorem opcOf_encode (i : Instr) : opcOf (encode i) = i.opcode := by
  refine BitVec.eq_of_getLsbD_eq fun j hj => ?_
  simp only [opcOf, encode]
  interval_cases j <;> simp [-BitVec.getLsbD_eq_getElem]

/-- The argument of an encoded command (30_encoding.md R50). -/
theorem argOf_encode (i : Instr) : argOf (encode i) = i.argument := by
  refine BitVec.eq_of_getLsbD_eq fun j hj => ?_
  simp only [argOf, encode]
  interval_cases j <;> simp [-BitVec.getLsbD_eq_getElem]

end Sys2Proof

namespace Sys2Proof.Laws.WordHalves

/-- The command's word is its opcode above its argument. -/
def Statement (i : Instr) : Prop := opcOf (encode i) = i.opcode ∧ argOf (encode i) = i.argument

/-- Every command's word is. -/
theorem statement_holds (i : Instr) : Statement i := ⟨opcOf_encode i, argOf_encode i⟩

theorem regAddr (name : BitVec 5) : Statement (.regAddr name) := statement_holds _

theorem packCr1 (dri : BitVec 3) (osr : BitVec 4) (fr tm ac : Bit) : Statement (.packCr1 dri osr fr tm ac) := statement_holds _

theorem unpackCr1 (img : Byte) : Statement (.unpackCr1 img) := statement_holds _

theorem packCr2 (stz sty stx rst raw auto : Bit) : Statement (.packCr2 stz sty stx rst raw auto) := statement_holds _

theorem unpackCr2 (img : Byte) : Statement (.unpackCr2 img) := statement_holds _

theorem decodeMode (byte : Byte) : Statement (.decodeMode byte) := statement_holds _

theorem getState : Statement .getState := statement_holds _

theorem openSession (bus : BusId) (addr : SlaveAddr) : Statement (.openSession bus addr) := statement_holds _

theorem testMode : Statement .testMode := statement_holds _

theorem readSample (dv : BitVec 3) : Statement (.readSample dv) := statement_holds _

theorem closeSession : Statement .closeSession := statement_holds _

end Sys2Proof.Laws.WordHalves
end

