-- ==== Sys2Proof/Machine/RefDevice.lean ====
section
/-! DEFINITION. The reference device of 20_memory.md R49: NON-NORMATIVE, a deterministic oracle for simulation only. No
statement about the block uses it ("claims quantify over every oracle"). Assumption log 14. -/

namespace Sys2Proof.Machine

/-- The reference device: 18 registers and a pointer (20_memory.md R49). -/
structure RefDevice where
  regs : Vector Byte 18
  ptr : Nat
  deriving DecidableEq, Repr

/-- Power-on: the identity register 0xC4, CTRL_REG1, CTRL_REG2 and SYSMOD 0x00 (20_memory.md R49); the registers whose
power-on contents R49 does not give are 0 (assumption log 14). -/
def refPowerOn : RefDevice where
  regs := (Vector.replicate 18 (0 : Byte)).set 0x07 0xC4
  ptr := 0

/-- A register of the reference device; 0 past the last one (never used: `refRead` stops first). -/
def RefDevice.reg (d : RefDevice) (a : Nat) : Byte := d.regs[a]?.getD 0

/-- Set a register; nothing past the last one. -/
def RefDevice.setReg (d : RefDevice) (a : Nat) (v : Byte) : RefDevice :=
  { d with regs := d.regs.setIfInBounds a v }

/-- The addresses a register write takes effect at (20_memory.md R49). -/
def refWritable (a : Nat) : Bool :=
  (9 ≤ a && a ≤ 14) || a = 16 || a = 17

/-- SYSMOD as CTRL_REG1.AC and CTRL_REG2.RAW make it (20_memory.md R49). -/
def RefDevice.refreshMode (d : RefDevice) : RefDevice :=
  d.setReg 8
    (if (d.reg 16).extractLsb' 0 1 = 0 then 0x00 else if (d.reg 17).extractLsb' 5 1 = 1 then 0x01 else 0x02)

/-- The effect of a register write on the registers (20_memory.md R49). -/
def RefDevice.writeReg (d : RefDevice) (a : Nat) (v : Byte) : RefDevice :=
  if refWritable a then
    let d' := d.setReg a v
    if a = 16 || (a = 17 && (d'.reg 16).extractLsb' 0 1 = 1) then d'.refreshMode else d'
  else d

/-- The bytes of `n` registers from the pointer on; `none` past 0x11, where the simulator stops (20_memory.md R49). -/
def RefDevice.burst (d : RefDevice) (n : Nat) : Option (List Byte) :=
  if d.ptr + n ≤ 18 then some ((List.range n).map fun j => d.reg (d.ptr + j)) else none

/-- The device performs a transaction and answers it; `none` outside the reference model (20_memory.md R49). -/
def RefDevice.perform (d : RefDevice) (t : Transaction) : Option (Answer × RefDevice) :=
  match t with
  | .acquire _ => some (.ok, d)
  | .bind _ => some (.ok, d)
  | .release => some (.ok, d)
  | .write [a] => some (.ok, { d with ptr := a.toNat })
  | .write [a, v] => some (.ok, { d.writeReg a.toNat v with ptr := a.toNat + 1 })
  | .write _ => none
  | .read n => (d.burst n).map fun bs => (.okBytes bs, { d with ptr := d.ptr + n })

/-- The environment answers the block's outstanding transaction with the reference device, or with FAIL, the device
then not performing it (20_memory.md R49, 95_test_vectors.md). `none` when no transaction is outstanding. -/
def RefDevice.feed (d : RefDevice) (scriptFail : Bool) (s : State) : Option (State × RefDevice) :=
  match s.bus with
  | none => none
  | some t =>
    if scriptFail then some ({ s with inputs := .answer .fail :: s.inputs }, d)
    else (d.perform t).map fun r => ({ s with inputs := .answer r.1 :: s.inputs }, r.2)

end Sys2Proof.Machine
end

