-- ==== Sys2Proof/Tests/Slice0.lean ====
section
/-! SUPPORT. Tests: ill-formed terms that WellFormed refuses; words written out from 30_encoding.md R51 and R52; vectors of
95_test_vectors.md; and, for every statement with hypotheses, a witness that meets them all. -/

namespace Sys2Proof.Tests

open Sys2Proof Sys2Proof.Machine

/-! ### Ill-formed terms are refused -/

theorem test_wellFormed_name : (Instr.regAddr 17).wellFormed = true ∧ (Instr.regAddr 18).wellFormed = false := by decide

theorem test_wellFormed_ratio :
    (Instr.packCr1 0 8 0 0 0).wellFormed = true ∧ (Instr.packCr1 0 3 0 0 0).wellFormed = false := by decide

theorem test_wellFormed_destinations :
    (Instr.readSample 7).wellFormed = true ∧ (Instr.readSample 6).wellFormed = false := by decide

theorem test_wellFormed_params :
    Params.default.wellFormed = true ∧
    ({ Params.default with stPos := { x := .p0, y := .p0, z := .p2 } } : Params).wellFormed = false ∧
    ({ Params.default with stPos := { x := .p6, y := .p1, z := .p6 } } : Params).wellFormed = false ∧
    ({ Params.default with stPos := { x := .p0, y := .p3, z := .p3 } } : Params).wellFormed = false := by decide

/-! ### Words written out from 30_encoding.md R51, R52, opcode then argument fields -/

theorem test_word_regAddr : decode 0b0001_0000000_10000 = .ok (.regAddr 16) := by decide

theorem test_word_packCr1 : decode 0b0010_00_101_0100_1_0_0 = .ok (.packCr1 5 4 1 0 0) := by decide

theorem test_word_unpackCr1 : decode 0b0011_0000_00011001 = .ok (.unpackCr1 0x19) := by decide

theorem test_word_packCr2 : decode 0b0100_000000_0_0_1_0_1_0 = .ok (.packCr2 0 0 1 0 1 0) := by decide

theorem test_word_unpackCr2 : decode 0b0101_0000_01001000 = .ok (.unpackCr2 0x48) := by decide

theorem test_word_decodeMode : decode 0b0110_0000_11111110 = .ok (.decodeMode 0xFE) := by decide

theorem test_word_getState : decode 0b0111_000000000000 = .ok .getState := by decide

theorem test_word_openSession : decode 0b1000_00001_0001110 = .ok (.openSession 1 0x0E) := by decide

theorem test_word_testMode : decode 0b1001_000000000000 = .ok .testMode := by decide

theorem test_word_readSample : decode 0b1010_000000000_110 = .ok (.readSample 6) := by decide

theorem test_word_closeSession : decode 0b1011_000000000000 = .ok .closeSession := by decide

/-- 95_test_vectors.md 2.2, and the reserved bits next to the fields of 2.1. -/
theorem test_word_rejected :
    decode 0x0FFF = .error .reservedOpcode ∧ decode 0xD123 = .error .reservedOpcode ∧
    decode 0xFFFF = .error .reservedOpcode ∧ decode 0x1020 = .error .reservedArgument ∧
    decode 0x3100 = .error .reservedArgument ∧ decode 0x4040 = .error .reservedArgument ∧
    decode 0x7001 = .error .reservedArgument ∧ decode 0x9800 = .error .reservedArgument ∧
    decode 0xA00F = .error .reservedArgument ∧ decode 0xB001 = .error .reservedArgument := by decide

/-! ### Small states -/

/-- An IDLE block in an OPEN session: bus 0, address 0x0E, ACTIVE_CORRECTED. -/
def opened : State :=
  { State.reset with sess := .opened, busId := some 0, devAddr := some 0x0E, cachedMode := .activeCorrected }

/-- A block waiting on transaction `t` of step `k` of the command with word `w`, the answer `a` next. -/
def awaiting (s : State) (w : Word) (k : StepId) (t : Transaction) (a : Answer) : State :=
  { s with ph := .busy k, cur := some w, bus := some t, inputs := [.answer a] }

/-- The state OPEN of bus 0 and address 0x0E runs in, past its bind. -/
def opening : State := { State.reset with busId := some 0, devAddr := some 0x0E }

/-- The response a step leaves. -/
def answerOf (o : Out) : Option Response :=
  match o with
  | .next t => t.rsp
  | .fault _ => none
  | .refused _ => none

/-- The transaction a step issues. -/
def issuedBy (o : Out) : Option Transaction :=
  match o with
  | .next t => t.bus
  | .fault _ => none
  | .refused _ => none

/-- The response to a word presented to the block. -/
def answerTo (s : State) (w : Nat) : Option Response := answerOf (step (s.withFetchWord 16 w))

/-! ### Register Map commands (95_test_vectors.md 2.1) -/

theorem test_regAddr_last : answerTo State.reset 0x1011 = some (okResponse 0x11) := by decide

theorem test_regAddr_refused : answerTo State.reset 0x1012 = some (errorResponse .invalidArgument .noStep) := by decide

theorem test_packCr1_fields : answerTo State.reset 0x22A4 = some (okResponse 0xB4) := by decide

theorem test_packCr1_refused : answerTo opened 0x2018 = some (errorResponse .invalidArgument .noStep) := by decide

theorem test_unpackCr1_inverse : answerTo State.reset 0x30E7 = some (okResponse 0x38F) := by decide

theorem test_packCr2_all_ones : answerTo State.reset 0x403F = some (okResponse 0xB7) := by decide

theorem test_packCr2_stz : answerTo State.reset 0x4020 = some (okResponse 0x04) := by decide

theorem test_unpackCr2_reserved : answerTo State.reset 0x5048 = some (okResponse 0x00) := by decide

theorem test_unpackCr2_selfTest : answerTo State.reset 0x5007 = some (okResponse 0x38) := by decide

theorem test_decodeMode_high_bits : answerTo State.reset 0x60FC = some (okResponse 1) := by decide

theorem test_decodeMode_unknown : answerTo opened 0x6003 = some (okResponse 4) := by decide

theorem test_getState_reset : answerTo State.reset 0x7000 = some (okResponse 0) := by decide

theorem test_getState_open :
    answerTo { opened with busId := some 31, devAddr := some 0x7F, cachedMode := .activeRaw } 0x7000 =
      some (okResponse 0xFFF5) := by decide

/-- 95_test_vectors.md 2.2: ILLEGAL_COMMAND, in either session. -/
theorem test_illegal_word :
    answerTo State.reset 0x0000 = some (errorResponse .illegalCommand .noStep) ∧
    answerTo opened 0xA008 = some (errorResponse .illegalCommand .noStep) := by decide

/-! ### Session commands (95_test_vectors.md 2.3 to 2.6) -/

theorem test_openSession_acquires :
    issuedBy (step (State.reset.withFetchWord 16 0x8FFF)) = some (.acquire 31) := by decide

theorem test_openSession_already : answerTo opened 0x800E = some (errorResponse .alreadyOpen .noStep) := by decide

theorem test_testMode_byte :
    answerOf (step (awaiting opened 0x9000 .modeRead (.read 1) (.okBytes [0xFF]))) = some (okResponse 0xFF04) := by decide

theorem test_testMode_closed : answerTo State.reset 0x9000 = some (errorResponse .notOpen .noStep) := by decide

theorem test_readSample_bytes :
    answerOf (step (awaiting opened 0xA007 .sampleRead (.read 6) (.okBytes [0xFF, 0x9C, 0x00, 0x64, 0x80, 0x00]))) =
      some (okResponse 0x80000064FF9C) := by decide

theorem test_readSample_arguments_first :
    answerTo State.reset 0xA006 = some (errorResponse .invalidArgument .noStep) := by decide

theorem test_closeSession_fail :
    answerOf (step (awaiting opened 0xB000 .release .release .fail)) = some (errorResponse .ioError .release) := by decide

theorem test_closeSession_releases : issuedBy (step (opened.withFetchWord 16 0xB000)) = some .release := by decide

/-- 95_test_vectors.md 2.4: the quiesce path's next write, and the CR2 image with `P_RAW = 1`. -/
theorem test_open_quiesces :
    issuedBy (step (awaiting opening 0x800E .modeRead (.read 1) (.okBytes [0x03]))) = some (.write [0x10, 0x18]) ∧
    issuedBy (step (awaiting { opening with params := { Params.default with raw := 1 } } 0x800E .cr1StandbyWrite
      (.write [0x10, 0x18]) .ok)) = some (.write [0x11, 0x20]) := by decide

/-- 95_test_vectors.md 2.4, k = 10: a confirm byte 0x00 leads to the cleanup release, whose FAIL is not reported. -/
theorem test_open_not_confirmed :
    issuedBy (step (awaiting opening 0x800E .confirmRead (.read 1) (.okBytes [0x00]))) = some .release ∧
    answerOf (step { awaiting opening 0x800E .release .release .fail with
      pendErr := some { status := .configError, step := .confirmMode } }) =
      some (errorResponse .configError .confirmMode) := by decide

/-! ### The host, the assembler and the reference device -/

/-- 95_test_vectors.md S1: X of the vector, stored by a little-endian host. -/
theorem test_store_sample : storeSample .little 0 0x1234 = [(0, 0x34), (1, 0x12)] := by decide

/-- 95_test_vectors.md 2.5: the response of a failed command carries no sample; the first row's response does. -/
theorem test_response_sample :
    (errorResponse .ioError .sampleRead).sample = none ∧
    (okResponse 0x9ABC56781234).sample = some { x := 0x1234, y := 0x5678, z := 0x9ABC } := by decide

/-- 95_test_vectors.md, its notation: `(IO_ERROR, 12, 0)` as one value. -/
theorem test_response_word : (errorResponse .ioError .sampleRead).word = 0x1C000000000000 := by decide

/-- 95_test_vectors.md P1 to P3: source lines and their words. -/
theorem test_assemble_lines :
    assembleText "OPEN bus=1, addr=0x0E" = .ok 0x808E ∧ assembleText "READ_SAMPLE" = .ok 0xA007 ∧
    assembleText "PACK_CR1 os=2, dr=3 ; a comment" = .ok 0x2190 := by decide

/-- 30_encoding.md R61: a datasheet name; a value that fits but is illegal; one that does not fit. -/
theorem test_assemble_values :
    assembleText "REG_ADDR name=CTRL_REG1" = .ok 0x1010 ∧ assembleText "PACK_CR1 os=3" = .ok 0x2018 ∧
    assembleText "PACK_CR1 os=16" = .error .doesNotFit := by decide

/-- 20_memory.md R49: the activate write at power-on makes the device report 0x02 (95_test_vectors.md P1). -/
theorem test_refDevice_activate :
    (refPowerOn.perform (.write [0x10, 0x19])).map (fun r => (r.1, r.2.reg 0x08)) = some (.ok, 0x02) := by decide

/-- 70_reset_and_hazards.md R142: after P3's last word the run is over. -/
theorem test_run_over :
    (State.reset.answered (okResponse 0)).observation =
      some { responses := [okResponse 0], transcript := [], sess := .closed, cachedMode := .noBelief } := by decide

/-- 70_reset_and_hazards.md R133, duty 3: right after reset, and not while a command is executing. -/
theorem test_host_may_present :
    State.reset.hostMayPresent = true ∧
    (awaiting opened 0xB000 .release .release .ok).hostMayPresent = false := by decide

/-! ### Witnesses: encoding -/

theorem witness_EncodeInvertsDecode : decode 0x1010 = .ok (.regAddr 16) := by decide

theorem witness_WordIsCommandIffItsRowCoversIt :
    decode 0xA007 = .ok (.readSample 7) ∧ { mask := 0xFFF8, pattern := 0xA000 } ∈ opcodeTable ∧
    OpRow.covers { mask := 0xFFF8, pattern := 0xA000 } 0xA007 = true := by decide

theorem witness_AssemblyRoundTrip :
    (AsmKey.os, 4) ∈ asmKeys (AsmLine.mk .packCr1 [(.os, 16)]).op ∧
    2 ^ 4 ≤ (AsmLine.mk .packCr1 [(.os, 16)]).value .os := by decide

/-- The hypotheses of two clauses of `PseudoInstructionsExpand`: a PACK_CR1 line without `os`, one with no key at all, and a
key that the line omits. The first line's words are those of 30_encoding.md R62's CR1_ACTIVE and CR1_STANDBY. -/
theorem witness_PseudoInstructionsExpand :
    (∀ a ∈ [(AsmKey.ac, 1)], a.1 ≠ AsmKey.os) ∧ (AsmLine.mk .packCr1 [(.ac, 1)]).assemble = .ok 0x2041 ∧
    (∀ a ∈ ([] : List (AsmKey × Nat)), a.1 ≠ AsmKey.os) ∧ (AsmLine.mk .packCr1 []).assemble = .ok 0x2040 ∧
    AsmKey.tm ≠ .os ∧ AsmKey.tm ≠ .dv ∧ ∀ a ∈ (AsmLine.mk .packCr1 [(.ac, 1)]).args, a.1 ≠ AsmKey.tm := by decide

/-! ### Witnesses: steps -/

theorem witness_StepRunsTheDecodedCommand :
    ((State.reset.withFetchWord 16 0x7000).ph = .idle ∧
      (State.reset.withFetchWord 16 0x7000).inputs = .command 0x7000 :: [] ∧ decode 0x7000 = .ok .getState) ∧
    (awaiting opened 0x9000 .modeRead (.read 1) .fail).ph = .busy .modeRead ∧
    (awaiting opened 0x9000 .modeRead (.read 1) .fail).inputs = .answer .fail :: [] ∧
    (awaiting opened 0x9000 .modeRead (.read 1) .fail).cur = some 0x9000 ∧ decode 0x9000 = .ok .testMode := by decide

theorem witness_Quiet : State.reset.Quiet ∧ opened.Quiet ∧ (State.reset.withFetchWord 16 0).Quiet :=
  ⟨⟨rfl, rfl, rfl⟩, ⟨rfl, rfl, rfl⟩, ⟨rfl, rfl, rfl⟩⟩

theorem witness_IllegalWordIsOnlyAnswered :
    (State.reset.withFetchWord 16 0x1020).Quiet ∧
    (State.reset.withFetchWord 16 0x1020).inputs = .command 0x1020 :: [] ∧
    decode 0x1020 = .error .reservedArgument ∧ decode 0xC000 = .error .reservedOpcode :=
  ⟨⟨rfl, rfl, rfl⟩, by decide⟩

/-- `StepRunsTheDecodedCommand`'s states again, with the input that has no effect. -/
theorem witness_InputsWithoutEffect :
    (({ awaiting opened 0xB000 .release .release .ok with inputs := [.command 0x7000] } : State).ph = .busy .release ∧
      ({ awaiting opened 0xB000 .release .release .ok with inputs := [.command 0x7000] } : State).inputs =
        .command 0x7000 :: []) ∧
    ({ opened with inputs := [.lateAnswer .ok] } : State).inputs = .lateAnswer .ok :: [] ∧
    ({ opened with inputs := [.answer .fail] } : State).ph = .idle ∧
    ({ opened with inputs := [.answer .fail] } : State).inputs = .answer .fail :: [] := by decide

theorem witness_NoStepWithoutAnInput :
    (State.reset.inputs = [] ∧ State.reset.ph = .idle) ∧
    ({ awaiting opened 0xB000 .release .release .ok with inputs := [] } : State).inputs = [] ∧
    ({ awaiting opened 0xB000 .release .release .ok with inputs := [] } : State).ph = .busy .release := by decide

theorem witness_ResetClearsTheBlock :
    ({ awaiting opening 0x800E .cr2Write (.write [0x11, 0]) .ok with inputs := [.reset, .reset] } : State).inputs =
      .reset :: [.reset] := by decide

/-! ### Witnesses: the Register Map unit -/

/-- Name codes on both sides of the boundary 17, in a quiet state. -/
theorem witness_RegAddrGivesTheAddress :
    State.reset.Quiet ∧ (0 : BitVec 5).toNat ≤ 17 ∧ (17 : BitVec 5).toNat ≤ 17 ∧ 17 < (18 : BitVec 5).toNat ∧
    17 < (31 : BitVec 5).toNat := ⟨⟨rfl, rfl, rfl⟩, by decide⟩

/-- A number that is no ratio, and the least and the greatest ratio with their codes. -/
theorem witness_PackCr1BuildsTheImage :
    opened.Quiet ∧ ((15 : BitVec 4) ≠ 1 ∧ (15 : BitVec 4) ≠ 2 ∧ (15 : BitVec 4) ≠ 4 ∧ (15 : BitVec 4) ≠ 8) ∧
    (1 : BitVec 4) = 1#4 <<< (0 : BitVec 2).toNat ∧ (8 : BitVec 4) = 1#4 <<< (3 : BitVec 2).toNat :=
  ⟨⟨rfl, rfl, rfl⟩, by decide⟩

theorem witness_Cr1RoundTrip :
    State.reset.Quiet ∧ opened.Quiet ∧ (Instr.packCr1 7 1 1 1 1).wellFormed = true ∧ osCode 8 = some 3 :=
  ⟨⟨rfl, rfl, rfl⟩, ⟨rfl, rfl, rfl⟩, by decide⟩

/-- Default positions, and others with a position that is no self-test's. -/
theorem witness_PackCr2BuildsTheImage :
    State.reset.Quiet ∧ State.reset.params.wellFormed = true ∧ State.reset.params = Params.default ∧
    ({ Params.default with stPos := { x := .p6, y := .p3, z := .p0 } } : Params).wellFormed = true ∧
    (CrPos.p1 ≠ .p6 ∧ CrPos.p1 ≠ .p3 ∧ CrPos.p1 ≠ .p0) := ⟨⟨rfl, rfl, rfl⟩, by decide⟩

theorem witness_Cr2RoundTrip :
    ({ Params.default with stPos := { x := .p6, y := .p3, z := .p0 } } : Params).wellFormed = true := by decide

theorem witness_GetStateShowsTheSession :
    (State.reset.Quiet ∧ State.reset.sess = .closed) ∧ opened.Quiet ∧ opened.sess = .opened ∧
    opened.devAddr = some 0x0E ∧ opened.busId = some 0 ∧ opened.cachedMode = .activeCorrected :=
  ⟨⟨⟨rfl, rfl, rfl⟩, rfl⟩, ⟨rfl, rfl, rfl⟩, by decide⟩

theorem witness_RegisterMapIgnoresTheSession :
    isRmu (.regAddr 3) = true ∧ Instr.regAddr 3 ≠ .getState ∧ State.reset.Quiet ∧ opened.Quiet ∧
    State.reset.params = opened.params ∧ (answerOf (exec (.regAddr 3) State.reset)).isSome = true :=
  ⟨by decide, by decide, ⟨rfl, rfl, rfl⟩, ⟨rfl, rfl, rfl⟩, by decide, by decide⟩

theorem witness_ConfigureImages :
    Params.default.raw = 0 ∧ ({ Params.default with raw := 1 } : Params).raw = 1 := by decide

theorem witness_RegisterMapIsNumberedInOrder : regOfCode 17 = some .ctrlReg2 ∧ regOfCode 18 = none := by decide

/-! ### Witnesses: OPEN -/

/-- Every transaction of OPEN with the answers the statements name. -/
theorem witness_Open_awaits (k : StepId) (t : Transaction) (a : Answer) :
    (awaiting opening 0x800E k t a).Awaits k t a [] := ⟨rfl, rfl, rfl⟩

theorem witness_OpenAcquires :
    (State.reset.ph = .idle ∧ State.reset.sess = .closed) ∧
    (awaiting { State.reset with busId := some 0 } 0x800E .acquire (.acquire 0) .fail).Awaits .acquire (.acquire 0)
      .fail [] := ⟨by decide, rfl, rfl, rfl⟩

/-- The last clause of `OpenBinds`, in IDLE and at the answered acquire. -/
theorem witness_OpenBinds :
    State.reset.ph = .idle ∧ issuedBy (exec (.openSession 0 0x0E) State.reset) = some (.acquire 0) ∧
    (awaiting opening 0x800E .acquire (.acquire 0) .ok).ph = .busy .acquire ∧
    issuedBy (exec (.openSession 0 0x0E) (awaiting opening 0x800E .acquire (.acquire 0) .ok)) =
      some (.bind 0x0E) := by decide

/-- Mode bytes for each case of the mode read and of the confirm read. -/
theorem witness_Open_modes :
    decodeMode 0x00 = .standby ∧ decodeMode 0x01 = .activeRaw ∧ decodeMode 0x02 = .activeCorrected ∧
    decodeMode 0x03 = .unknown ∧ decodeMode 0xFF ≠ .standby := by decide

theorem witness_FailedOpenIsCleanedUp :
    (StepId.bind ≠ .acquire ∧ StepId.bind ≠ .release ∧ StepId.confirmRead ≠ .acquire ∧ StepId.confirmRead ≠ .release) ∧
    ({ awaiting opening 0x800E .release .release .fail with
      pendErr := some { status := .ioError, step := .bind } } : State).Awaits .release .release .fail [] :=
  ⟨by decide, rfl, rfl, rfl⟩

/-- The inputs of a whole OPEN of bus 0 and address 0x0E, in a block right after reset. -/
def openScript (as : List Answer) : State :=
  { State.reset with inputs := .command (encode (.openSession 0 0x0E)) :: as.map .answer }

theorem witness_OpenOfAStandbyDevice :
    (openScript [.ok, .ok, .ok, .okBytes [0x00], .ok, .ok, .okBytes [0x02]]).Quiet ∧
    (openScript [.ok, .ok, .ok, .okBytes [0x00], .ok, .ok, .okBytes [0x02]]).sess = .closed ∧
    decodeMode 0x00 = .standby ∧ (decodeMode 0x02).isActive = true ∧
    (openScript [.ok, .ok, .ok, .okBytes [0x00], .ok, .ok, .okBytes [0x02]]).inputs =
      .command (encode (.openSession 0 0x0E)) :: .answer .ok :: .answer .ok :: .answer .ok ::
        .answer (.okBytes [0x00]) :: .answer .ok :: .answer .ok :: .answer (.okBytes [0x02]) :: [] :=
  ⟨⟨rfl, rfl, rfl⟩, rfl, by decide, by decide, rfl⟩

theorem witness_OpenOfAnActiveDevice :
    (openScript [.ok, .ok, .ok, .okBytes [0x01], .ok, .ok, .ok, .ok, .okBytes [0x02]]).Quiet ∧
    (openScript [.ok, .ok, .ok, .okBytes [0x01], .ok, .ok, .ok, .ok, .okBytes [0x02]]).sess = .closed ∧
    decodeMode 0x01 ≠ .standby ∧ (decodeMode 0x02).isActive = true ∧
    (openScript [.ok, .ok, .ok, .okBytes [0x01], .ok, .ok, .ok, .ok, .okBytes [0x02]]).inputs =
      .command (encode (.openSession 0 0x0E)) :: .answer .ok :: .answer .ok :: .answer .ok ::
        .answer (.okBytes [0x01]) :: .answer .ok :: .answer .ok :: .answer .ok :: .answer .ok ::
        .answer (.okBytes [0x02]) :: [] :=
  ⟨⟨rfl, rfl, rfl⟩, rfl, by decide, by decide, rfl⟩

/-! ### Witnesses: TEST_MODE, READ_SAMPLE, CLOSE -/

/-- Every transaction of the commands of an OPEN session with the answers the statements name. -/
theorem witness_Session_awaits (w : Word) (k : StepId) (t : Transaction) (a : Answer) :
    (awaiting opened w k t a).Awaits k t a [] := ⟨rfl, rfl, rfl⟩

theorem witness_SessionChecks :
    (State.reset.Quiet ∧ State.reset.sess = .closed) ∧ opened.Quiet ∧ opened.sess = .opened ∧ opened.ph = .idle ∧
    (0b011 : BitVec 3) ≠ 0b111 := ⟨⟨⟨rfl, rfl, rfl⟩, rfl⟩, ⟨rfl, rfl, rfl⟩, by decide⟩

/-- A READ_SAMPLE that ends in an error; and an accepting step. -/
theorem witness_ReadSampleIsAllOrNothing :
    ((awaiting opened 0xA007 .sampleRead (.read 6) .fail).rspValid = false ∧
      answerOf (exec (.readSample 7) (awaiting opened 0xA007 .sampleRead (.read 6) .fail)) =
        some (errorResponse .ioError .sampleRead) ∧ Status.ioError ≠ .ok) ∧
    (State.reset.withFetchWord 16 0x7000).ph = .idle ∧
    (State.reset.withFetchWord 16 0x7000).inputs = .command 0x7000 :: [] ∧
    (answerOf (step (State.reset.withFetchWord 16 0x7000))).isSome = true := by decide

theorem witness_ReadSampleKeepsTheSession :
    issuedBy (exec (.readSample 7) opened) = some (.write [0x01]) := by decide

/-! ### Witnesses: whole-machine rules -/

/-- The step answers a next state. -/
def isNext (o : Out) : Bool :=
  match o with
  | .next _ => true
  | .fault _ => false
  | .refused _ => false

/-- An OPEN session in IDLE meets the invariant. -/
theorem opened_inv : Inv opened where
  params := by decide
  idle := fun _ => ⟨rfl, rfl⟩
  closed := fun _ h => by cases h
  opened := fun _ => by decide
  busy := fun k h => by cases h
  valid := fun h => by cases h
  response := fun r h => by cases h

theorem witness_RegisterMapCommandsOnlyAnswer : isRmu .getState = true ∧ Inv opened ∧ opened.ph = .idle :=
  ⟨rfl, opened_inv, rfl⟩

/-- A transcript that leads to a bound bus. -/
def boundTranscript : List (Transaction × Answer) := [(.acquire 0, .ok), (.bind 0x0E, .ok)]

/-- TEST_MODE waiting on its read, on a bound bus. -/
def testing : State :=
  { awaiting opened 0x9000 .modeRead (.read 1) (.okBytes [0x02]) with transcript := boundTranscript }

theorem testing_inv : Inv testing where
  params := by decide
  idle := fun h => by cases h
  closed := fun h => by cases h
  opened := fun _ => by decide
  busy := fun k h => ⟨.testMode, by
    cases h
    exact
      { cur := by decide, legal := rfl, port := ⟨_, rfl, rfl⟩, noResponse := rfl, session := by decide,
        binding := fun _ _ h => (by cases h), pending := by decide, pendingLegal := fun e h => (by cases h) }⟩
  valid := fun h => by cases h
  response := fun r h => by cases h

theorem witness_StepKeepsTheInvariant : Inv testing ∧ isNext (step testing) = true := ⟨testing_inv, by decide⟩

/-- A state for each way the machine stops: no command, no answer, an answer of the wrong shape. -/
theorem witness_StopsOnlyForWantOfAnInput :
    (Inv opened ∧ step opened = .fault .awaitingCommand) ∧ Inv testing ∧
    step { testing with inputs := [] } = .fault (.awaitingAnswer .modeRead) ∧
    step { testing with inputs := [.answer (.okBytes [])] } = .fault .answerShape :=
  ⟨⟨opened_inv, rfl⟩, testing_inv, rfl, rfl⟩

theorem witness_StepKeepsTheBusDiscipline : Inv testing ∧ BusDiscipline testing ∧ isNext (step testing) = true :=
  ⟨testing_inv, ⟨.bound, by decide, fun q h => by cases h; rfl⟩, by decide⟩

/-- An OPEN of bus 0 and address 0x0E waiting on step `k`, whose transaction is `t`. -/
def openingAt (k : StepId) (t : Transaction) (a : Answer) (ts : List (Transaction × Answer)) : State :=
  { awaiting opening 0x800E k t a with transcript := ts, m0 := some .unknown, cachedMode := .unknown }

/-- Such a state meets the invariant at every step between the bind and the release. -/
theorem openingAt_inv {k : StepId} {t : Transaction} {a : Answer} {ts : List (Transaction × Answer)}
    (hk : k ≠ .release) (ht : stepTransaction Params.default (.openSession 0 0x0E) k = some t) :
    Inv (openingAt k t a ts) where
  params := show Params.default.wellFormed = true by decide
  idle := fun h => by cases h
  closed := fun h => by cases h
  opened := fun h => by cases h
  busy := fun k' h => ⟨.openSession 0 0x0E, by
    cases h
    exact
      { cur := show some (0x800E : Word) = _ by decide, legal := rfl, port := ⟨t, ht, rfl⟩, noResponse := rfl,
        session := ⟨fun h => (by cases h), fun h => (by cases h)⟩,
        binding := fun _ _ h => (by cases h; exact ⟨rfl, fun _ => rfl⟩),
        pending := ⟨fun h => absurd h.2 hk, fun h => absurd rfl h⟩, pendingLegal := fun e h => (by cases h) }⟩
  valid := fun h => by cases h
  response := fun r h => by cases h

/-- The state of the first clause of the quiesce order: OPEN waits on the CR2 write. -/
def atCr2 : State := openingAt .cr2Write (.write [0x11, 0x00]) .ok (boundTranscript ++ [standbyWritten])

/-- The state of its second clause: OPEN waits on the activate write. -/
def atActivate : State :=
  openingAt .cr1ActiveWrite (.write [0x10, 0x19]) .ok
    (boundTranscript ++ [standbyWritten, cr2Written Params.default])

theorem witness_StepKeepsTheQuiesceOrder :
    (Inv atCr2 ∧ QuiesceOrder atCr2 ∧ isNext (step atCr2) = true) ∧
    Inv atActivate ∧ QuiesceOrder atActivate ∧ isNext (step atActivate) = true :=
  ⟨⟨openingAt_inv (by decide) (by decide), ⟨fun _ => ⟨boundTranscript, rfl⟩, fun h => by cases h⟩, by decide⟩,
    openingAt_inv (by decide) (by decide), ⟨fun h => (by cases h), fun _ => .inr ⟨boundTranscript, rfl⟩⟩, by decide⟩

/-- CLOSE waiting on its release meets the invariant. -/
theorem closing_inv : Inv (awaiting opened 0xB000 .release .release .ok) where
  params := by decide
  idle := fun h => by cases h
  closed := fun h => by cases h
  opened := fun _ => by decide
  busy := fun k h => ⟨.closeSession, by
    cases h
    exact
      { cur := by decide, legal := rfl, port := ⟨_, rfl, rfl⟩, noResponse := rfl, session := by decide,
        binding := fun _ _ h => (by cases h), pending := by decide, pendingLegal := fun e h => (by cases h) }⟩
  valid := fun h => by cases h
  response := fun r h => by cases h

/-- The session of the state a step leaves. -/
def sessionOf (o : Out) : Option Session :=
  match o with
  | .next t => some t.sess
  | .fault _ => none
  | .refused _ => none

/-- A step that opens the session, and one that closes it. -/
theorem witness_SessionChangesOnlyByOpenAndClose :
    (Inv (openingAt .confirmRead (.read 1) (.okBytes [0x02]) []) ∧
      (openingAt .confirmRead (.read 1) (.okBytes [0x02]) []).sess = .closed ∧
      sessionOf (step (openingAt .confirmRead (.read 1) (.okBytes [0x02]) [])) = some .opened) ∧
    Inv (awaiting opened 0xB000 .release .release .ok) ∧ opened.sess = .opened ∧
    sessionOf (step (awaiting opened 0xB000 .release .release .ok)) = some .closed :=
  ⟨⟨openingAt_inv (by decide) (by decide), rfl, by decide⟩, closing_inv, rfl, by decide⟩

/-- A step that issues a write. -/
theorem witness_IssuedAddressesAreFour :
    issuedBy (step (opened.withFetchWord 16 0xA007)) = some (.write (0x01 :: [])) ∧
    some (Transaction.write [0x01]) ≠ (opened.withFetchWord 16 0xA007).bus := by decide

/-- A step whose transcript grows, and one whose transcript does not. -/
theorem witness_TranscriptGrowsByTheAnsweredPair :
    step (awaiting opened 0xB000 .release .release .ok) =
      .next (((awaiting opened 0xB000 .release .release .ok).observed .release .ok []).sessionClosed.completed
        (okResponse 0)) ∧
    isNext (step (opened.withFetchWord 16 0x7000)) = true := ⟨rfl, by decide⟩

/-- A step that gives a response, and one that gives none. -/
theorem witness_ResponsesGrowByTheOneGiven :
    isNext (step testing) = true ∧ isNext (step (opened.withFetchWord 16 0xA007)) = true := by decide

theorem witness_ParametersAreNeverWritten : isNext (step testing) = true := by decide

/-- An error of TEST_MODE, an ALREADY_OPEN, and an error of CLOSE. -/
theorem witness_ErrorsWriteWhatTheirCommandAllows :
    ((awaiting opened 0x9000 .modeRead (.read 1) .fail).rspValid = false ∧
      (awaiting opened 0x9000 .modeRead (.read 1) .fail).pendErr = none ∧
      answerOf (exec .testMode (awaiting opened 0x9000 .modeRead (.read 1) .fail)) =
        some (errorResponse .ioError .modeRead)) ∧
    (opened.rspValid = false ∧ opened.pendErr = none ∧
      answerOf (exec (.openSession 0 0) opened) = some (errorResponse .alreadyOpen .noStep)) ∧
    (awaiting opened 0xB000 .release .release .fail).rspValid = false ∧
    answerOf (exec .closeSession (awaiting opened 0xB000 .release .release .fail)) =
      some (errorResponse .ioError .release) := by decide

/-- A step that is no accepted GET_STATE. -/
theorem witness_CachedModeSteersNothing :
    isNext (step testing) = true ∧
    ¬ (testing.ph = .idle ∧ ∃ rest, testing.inputs = .command 0x7000 :: rest) :=
  ⟨by decide, fun h => by cases h.1⟩

/-- A CLOSE presented with an answer it uses and one it does not; and one presented with no answer. -/
theorem witness_StepsUnfoldTheCommandView :
    (({ opened with inputs := [.command 0xB000, .answer .ok, .answer .fail, .reset] } : State).ph = .idle ∧
      ({ opened with inputs := [.command 0xB000, .answer .ok, .answer .fail, .reset] } : State).inputs =
        .command 0xB000 :: [Answer.ok, .fail].map .answer ++ [.reset] ∧
      ∃ t, runCommand { opened with inputs := [.command 0xB000, .answer .ok, .answer .fail, .reset] } 0xB000 [.ok, .fail] =
        .completes t [.fail]) ∧
    ({ opened with inputs := [.command 0xB000] } : State).inputs = .command 0xB000 :: [].map .answer ∧
    ∃ t, runCommand { opened with inputs := [.command 0xB000] } 0xB000 [] = .holds t :=
  ⟨⟨rfl, rfl, _, rfl⟩, rfl, _, rfl⟩

end Sys2Proof.Tests
end

section
/-! The round trip of encoding, and the assembler's lines (30_encoding.md R61 to R64). -/

namespace Sys2Proof

/-! ### Decoding a command's word -/

/-- A word decodes by its command's opcode and argument. -/
theorem decode_encode_fields (i : Instr) : decode (encode i) = decodeFields i.opcode i.argument := by
  rw [decode, opcOf_encode, argOf_encode]

/-- Reserved bits that are 0 leave the command. -/
@[simp] theorem unlessReserved_zero {n : Nat} (i : Instr) : unlessReserved (0#n) i = .ok i := by
  simp [unlessReserved]

/-- Decoding the word of a command gives the command (30_encoding.md R64): each field is extracted from where it was placed,
and the reserved bits are 0. -/
theorem decode_encode (i : Instr) : decode (encode i) = .ok i := by
  rw [decode_encode_fields]
  cases i <;>
    simp (disch := omega) [decodeFields, Instr.opcode, Instr.argument, extract_or, extract_place_same,
      extract_place_below, extract_place_above]

/-- The word of an OPEN on bus 0 (30_encoding.md R62). -/
theorem encode_openSession_bus_zero (a : SlaveAddr) :
    encode (.openSession 0 a) = 0x8000 ||| a.setWidth 16 := by
  simp [encode, Instr.opcode, Instr.argument, place]

end Sys2Proof

namespace Sys2Proof.Machine

/-! ### Lines of the assembler -/

/-- A line assembles to a word exactly when its keys are the mnemonic's own, none is given twice and every value fits; the
word is then its command's. -/
theorem AsmLine.assemble_eq_ok_iff {l : AsmLine} {w : Word} :
    l.assemble = .ok w ↔
      (l.keysKnown = true ∧ l.keysOnce = true ∧ l.valuesFit = true) ∧ encode l.instr = w := by
  cases hk : l.keysKnown <;> cases ho : l.keysOnce <;> cases hv : l.valuesFit <;> simp [AsmLine.assemble, hk, ho, hv]

/-- The value of the first key of a line. -/
@[simp] theorem AsmLine.value_cons_same (op : AsmOp) (k : AsmKey) (n : Nat) (args : List (AsmKey × Nat)) :
    (AsmLine.mk op ((k, n) :: args)).value k = n := by
  simp [AsmLine.value]

/-- A key is looked for past a different one. -/
theorem AsmLine.value_cons_of_ne {op : AsmOp} {k k' : AsmKey} {n : Nat} {args : List (AsmKey × Nat)} (h : k' ≠ k) :
    (AsmLine.mk op ((k', n) :: args)).value k = (AsmLine.mk op args).value k := by
  simp [AsmLine.value, h]

/-- A line without keys gives every key its default. -/
@[simp] theorem AsmLine.value_nil (op : AsmOp) (k : AsmKey) : (AsmLine.mk op []).value k = asmDefault k := rfl

/-- The default of a key is 0, but for the two exceptions of 30_encoding.md R61 and R62. -/
theorem asmDefault_eq_zero {k : AsmKey} (hos : k ≠ .os) (hdv : k ≠ .dv) : asmDefault k = 0 := by
  cases k
  case os => exact absurd rfl hos
  case dv => exact absurd rfl hdv
  all_goals rfl

/-- OPEN with only its address is an OPEN of bus 0 (30_encoding.md R62). -/
theorem assemble_open_without_bus (a : SlaveAddr) :
    (AsmLine.mk .openSession [(.addr, a.toNat)]).assemble = .ok (encode (.openSession 0 a)) := by
  refine AsmLine.assemble_eq_ok_iff.mpr ⟨⟨rfl, rfl, ?_⟩, ?_⟩
  · simpa [AsmLine.valuesFit, asmKeys, AsmLine.value_cons_of_ne, asmDefault] using a.isLt
  · simp [AsmLine.instr, AsmLine.value_cons_of_ne, asmDefault]

/-- PACK_CR1 with every key but `os` has the values given and ratio 8 (30_encoding.md R62). -/
theorem assemble_packCr1_without_os (ac tm fr : Bit) (dri : BitVec 3) :
    (AsmLine.mk .packCr1 [(.ac, ac.toNat), (.tm, tm.toNat), (.fr, fr.toNat), (.dr, dri.toNat)]).assemble =
      .ok (encode (.packCr1 dri 8 fr tm ac)) := by
  refine AsmLine.assemble_eq_ok_iff.mpr ⟨⟨rfl, rfl, ?_⟩, ?_⟩
  · have hfit : ac.toNat < 2 ∧ tm.toNat < 2 ∧ fr.toNat < 2 ∧ dri.toNat < 8 := ⟨ac.isLt, tm.isLt, fr.isLt, dri.isLt⟩
    simpa [AsmLine.valuesFit, asmKeys, AsmLine.value_cons_of_ne, asmDefault] using hfit
  · simp [AsmLine.instr, AsmLine.value_cons_of_ne, asmDefault]

/-- Whatever word a PACK_CR1 line without `os` assembles to is a PACK_CR1 of ratio 8 (30_encoding.md R62). -/
theorem decode_packCr1_line_without_os {args : List (AsmKey × Nat)} {w : Word} (hos : ∀ a ∈ args, a.1 ≠ .os)
    (h : (AsmLine.mk .packCr1 args).assemble = .ok w) :
    ∃ (dri : BitVec 3) (fr tm ac : Bit), decode w = .ok (.packCr1 dri 8 fr tm ac) := by
  obtain ⟨-, rfl⟩ := AsmLine.assemble_eq_ok_iff.mp h
  have hratio : (AsmLine.mk .packCr1 args).value .os = 8 := AsmLine.value_of_omitted hos
  rw [decode_encode]
  simp only [AsmLine.instr, hratio]
  exact ⟨_, _, _, _, rfl⟩

/-- Settles O7: the rows without a free key by evaluation, the others by the lemmas on their lines. -/
theorem pseudoInstructionsExpand : Obligations.PseudoInstructionsExpand := by
  refine ⟨by decide, fun a => ?openRow, by decide, by decide, assemble_packCr1_without_os,
    fun _ _ => decode_packCr1_line_without_os, by decide, fun l k hos hdv hk => ?omittedKey⟩
  case openRow =>
    rw [← encode_openSession_bus_zero]
    exact ⟨assemble_open_without_bus a, decode_encode _⟩
  case omittedKey => rw [AsmLine.value_of_omitted hk, asmDefault_eq_zero hos hdv]

end Sys2Proof.Machine
end

section
/-! The Register Map unit (40_register_map.md R65 to R79): what a word must be to decode to a command, the operand functions
on their fields, and the one response of each command in a quiet state. -/

namespace Sys2Proof

/-! ### Decoding, read backwards -/

/-- An argument decodes exactly when its reserved bits are 0, and then to the command given. -/
theorem unlessReserved_eq_ok_iff {n : Nat} {r : BitVec n} {i j : Instr} : unlessReserved r i = .ok j ↔ r = 0#n ∧ i = j := by
  by_cases hr : r = 0#n <;> simp [unlessReserved, hr]

/-- Argument bits decode only under the opcode of the command they give (30_encoding.md R51). -/
theorem opcode_of_decodeFields {opc : BitVec 4} {arg : BitVec 12} {i : Instr} (h : decodeFields opc arg = .ok i) :
    opc = i.opcode := by
  unfold decodeFields at h
  split at h
  case h_8 =>
    cases h
    rfl
  case h_12 => cases h
  all_goals
    obtain ⟨-, rfl⟩ := unlessReserved_eq_ok_iff.mp h
    rfl

/-- A word decodes to a command exactly when its opcode is the command's and its argument decodes to it. -/
theorem decode_eq_ok_iff {w : Word} {i : Instr} :
    decode w = .ok i ↔ w.extractLsb' 12 4 = i.opcode ∧ decodeFields i.opcode (argOf w) = .ok i := by
  constructor
  · intro h
    have ho : opcOf w = i.opcode := opcode_of_decodeFields h
    exact ⟨ho, ho ▸ h⟩
  · rintro ⟨ho, h⟩
    exact (congrArg (decodeFields · (argOf w)) ho).trans h

/-- A field of the argument is a field of the word. -/
theorem extract_argOf (w : Word) (a n : Nat) (h : a + n ≤ 12) : (argOf w).extractLsb' a n = w.extractLsb' a n := by
  rw [argOf, extract_extract w 0 12 a n h, Nat.zero_add]

/-- A word is its opcode above its argument (30_encoding.md R50). -/
theorem place_opcOf_argOf (w : Word) : place 16 12 (opcOf w) ||| place 16 0 (argOf w) = w :=
  place_split w 12 (by decide)

/-! ### Placed fields -/

/-- A field placed at bit 0 is extended by zeros. -/
theorem place_at_zero {n : Nat} (w : Nat) (v : BitVec n) : place w 0 v = v.setWidth w := by simp [place]

/-- A field that is 0 sets no bit. -/
@[simp] theorem place_zero (w lo n : Nat) : place w lo (0#n) = 0#w := by simp [place]

end Sys2Proof

namespace Sys2Proof.Machine

/-! ### The operand functions -/

/-- A byte's DATA is the byte extended by zeros (30_encoding.md R56). -/
theorem byteData_eq (b : Byte) : byteData b = b.setWidth 48 := place_at_zero 48 b

/-- The registers' addresses are their positions in the source's order (20_memory.md R30). -/
theorem allRegs_map_addr : allRegs.map Reg.addr = (List.range Config.nRegs).map (BitVec.ofNat 8) := by decide

/-- The register that a name code names has that address (40_register_map.md R66). -/
theorem addr_of_regOfCode {name : BitVec 5} {r : Reg} (h : regOfCode name = some r) : r.addr = name.setWidth 8 := by
  have hm : (allRegs.map Reg.addr)[name.toNat]? = some r.addr := by
    rw [List.getElem?_map, show allRegs[name.toNat]? = some r from h, Option.map_some]
  rw [allRegs_map_addr, List.getElem?_map, Option.map_eq_some_iff] at hm
  obtain ⟨n, hn, ha⟩ := hm
  obtain ⟨_, hval⟩ := List.getElem?_eq_some_iff.mp hn
  rw [← ha, ← hval, List.getElem_range, BitVec.ofNat_toNat]

/-- The name codes above 17 name no register (40_register_map.md R66). -/
theorem regOfCode_eq_none_iff {name : BitVec 5} : regOfCode name = none ↔ 17 < name.toNat := by
  have hlength : allRegs.length = 17 + 1 := rfl
  rw [regOfCode, List.getElem?_eq_none_iff, hlength, Nat.succ_le_iff]

/-- Looking up a register's address gives the register (40_register_map.md R66). -/
theorem regOfCode_addr (r : Reg) : regOfCode (r.addr.setWidth 5) = some r := by
  cases r <;> rfl

/-- The numbers that are no oversampling ratio (40_register_map.md R68). -/
theorem osCode_eq_none {osr : BitVec 4} (h1 : osr ≠ 1) (h2 : osr ≠ 2) (h4 : osr ≠ 4) (h8 : osr ≠ 8) :
    osCode osr = none := by
  rw [osCode, if_neg h1, if_neg h2, if_neg h4, if_neg h8]

/-- The code of a code's ratio is the code (40_register_map.md R68). -/
theorem osCode_osRatio (os : BitVec 2) : osCode (osRatio os) = some os := by
  revert os
  decide

/-- The fields of a packed CR1 image are those packed (40_register_map.md R73). -/
theorem unpackCr1_packCr1 (f : Cr1Fields) : unpackCr1 (packCr1 f) = f := by
  simp (disch := omega) [unpackCr1, packCr1, extract_or, extract_place_same, extract_place_below, extract_place_above]

/-- `decode_mode`, by the value of bits 1:0 (40_register_map.md R77). -/
theorem decodeMode_cases (b : Byte) :
    b.extractLsb' 0 2 = 0 ∧ decodeMode b = .standby ∨ b.extractLsb' 0 2 = 1 ∧ decodeMode b = .activeRaw ∨
      b.extractLsb' 0 2 = 2 ∧ decodeMode b = .activeCorrected ∨ b.extractLsb' 0 2 = 3 ∧ decodeMode b = .unknown := by
  unfold decodeMode
  generalize b.extractLsb' 0 2 = v
  revert v
  decide

/-- The code of a decoded mode is bits 1:0 plus 1 (40_register_map.md R77). -/
theorem modeData_decodeMode (b : Byte) : modeData (decodeMode b) = (b.extractLsb' 0 2).setWidth 48 + 1 := by
  obtain ⟨hb, hm⟩ | ⟨hb, hm⟩ | ⟨hb, hm⟩ | ⟨hb, hm⟩ := decodeMode_cases b <;> rw [hb, hm] <;> rfl

/-! ### The commands in a quiet state -/

section
variable {s : State} (h : s.Quiet)
include h

/-- REG_ADDR of a name code that names a register (40_register_map.md R66). -/
theorem exec_regAddr_of_some {name : BitVec 5} {r : Reg} (hr : regOfCode name = some r) :
    exec (.regAddr name) s = .next (s.answered (okResponse (byteData r.addr))) := by
  rw [exec, execRegAddr, onAccept_idle h.1, hr, ← done_quiet h]

/-- REG_ADDR of a name code that names none (40_register_map.md R66). -/
theorem exec_regAddr_of_none {name : BitVec 5} (hr : regOfCode name = none) :
    exec (.regAddr name) s = .next (s.answered (errorResponse .invalidArgument .noStep)) := by
  rw [exec, execRegAddr, onAccept_idle h.1, hr, ← raise_quiet h]

/-- PACK_CR1 of a ratio (40_register_map.md R70). -/
theorem exec_packCr1_of_some {dri : BitVec 3} {osr : BitVec 4} {os : BitVec 2} {fr tm ac : Bit} (ho : osCode osr = some os) :
    exec (.packCr1 dri osr fr tm ac) s =
      .next (s.answered (okResponse (byteData (packCr1 { ac := ac, tm := tm, fr := fr, os := os, dri := dri })))) := by
  rw [exec, execPackCr1, onAccept_idle h.1, ho, ← done_quiet h]

/-- PACK_CR1 of a number that is no ratio (40_register_map.md R70). -/
theorem exec_packCr1_of_none {dri : BitVec 3} {osr : BitVec 4} {fr tm ac : Bit} (ho : osCode osr = none) :
    exec (.packCr1 dri osr fr tm ac) s = .next (s.answered (errorResponse .invalidArgument .noStep)) := by
  rw [exec, execPackCr1, onAccept_idle h.1, ho, ← raise_quiet h]

/-- UNPACK_CR1 (40_register_map.md R72). -/
theorem exec_unpackCr1_quiet (img : Byte) :
    exec (.unpackCr1 img) s = .next (s.answered (okResponse (cr1Data (unpackCr1 img)))) := by
  rw [exec, execUnpackCr1, onAccept_idle h.1, done_quiet h]

/-- DECODE_MODE (40_register_map.md R77). -/
theorem exec_decodeMode_quiet (byte : Byte) :
    exec (.decodeMode byte) s = .next (s.answered (okResponse (modeData (decodeMode byte)))) := by
  rw [exec, execDecodeMode, onAccept_idle h.1, done_quiet h]

/-- GET_STATE while CLOSED (40_register_map.md R78). -/
theorem exec_getState_closed (hs : s.sess = .closed) :
    exec .getState s = .next (s.answered (okResponse (stateData .closed s.cachedMode 0 0))) := by
  rw [exec, execGetState, onAccept_idle h.1, hs, ← done_quiet h]

/-- GET_STATE while OPEN (40_register_map.md R78). -/
theorem exec_getState_opened {addr : SlaveAddr} {bus : BusId} (hs : s.sess = .opened) (ha : s.devAddr = some addr)
    (hb : s.busId = some bus) :
    exec .getState s = .next (s.answered (okResponse (stateData .opened s.cachedMode addr bus))) := by
  rw [exec, execGetState, onAccept_idle h.1, hs, ha, hb, ← done_quiet h]

end

/-! ### The obligations -/

/-- Settles O14: the table of addresses says what a name code that names a register answers. -/
theorem regAddrGivesTheAddress : Obligations.RegAddrGivesTheAddress := by
  refine ⟨fun w name => ?word, fun s name h hn => ?named, fun s name h hn => ?refused, regOfCode_addr, rfl, rfl, rfl,
    by decide, rfl, rfl⟩
  case word =>
    simp (disch := omega) [decode_eq_ok_iff, Instr.opcode, decodeFields, unlessReserved_eq_ok_iff, extract_argOf]
  case named =>
    obtain ⟨r, hr⟩ := Option.ne_none_iff_exists'.mp fun hnone => Nat.not_lt.mpr hn (regOfCode_eq_none_iff.mp hnone)
    rw [exec_regAddr_of_some h hr, byteData_eq, addr_of_regOfCode hr, BitVec.setWidth_setWidth (by decide)]
  case refused => exact exec_regAddr_of_none h (regOfCode_eq_none_iff.mpr hn)

/-- Settles O15: the image is `pack_cr1` of the fields, and its fields are those of `unpack_cr1`. -/
theorem packCr1BuildsTheImage : Obligations.PackCr1BuildsTheImage := by
  refine ⟨fun w dri osr fr tm ac => ?word, fun s dri osr fr tm ac h h1 h2 h4 h8 => ?refused,
    fun s dri osr os fr tm ac h ho => ?packed, fun s h => ?corners, by decide, by decide⟩
  case word =>
    simp (disch := omega) [decode_eq_ok_iff, Instr.opcode, decodeFields, unlessReserved_eq_ok_iff, extract_argOf]
  case refused => exact exec_packCr1_of_none h (osCode_eq_none h1 h2 h4 h8)
  case packed =>
    have hcode : osCode osr = some os := ho ▸ osCode_osRatio os
    refine ⟨packCr1 { ac := ac, tm := tm, fr := fr, os := os, dri := dri }, ?_, ?_⟩
    · rw [exec_packCr1_of_some h hcode, byteData_eq]
    · have hf := unpackCr1_packCr1 { ac := ac, tm := tm, fr := fr, os := os, dri := dri }
      exact ⟨congrArg Cr1Fields.dri hf, congrArg Cr1Fields.os hf, congrArg Cr1Fields.fr hf, congrArg Cr1Fields.tm hf,
        congrArg Cr1Fields.ac hf⟩
  case corners =>
    exact ⟨exec_packCr1_of_none h rfl, exec_packCr1_of_some (os := 0) h rfl, exec_packCr1_of_some (os := 0) h rfl,
      exec_packCr1_of_some (os := 3) h rfl, exec_packCr1_of_some (os := 3) h rfl⟩

/-- Settles O16: each field stands where the PACK_CR1 layout places it, and no field reaches above bit 9. -/
theorem unpackCr1GivesTheFields : Obligations.UnpackCr1GivesTheFields := by
  refine ⟨fun w img => ?word, fun s img h => ⟨_, exec_unpackCr1_quiet h img, ?fields⟩, fun s h => ?corners⟩
  case word =>
    simp (disch := omega) [decode_eq_ok_iff, Instr.opcode, decodeFields, unlessReserved_eq_ok_iff, extract_argOf]
  case fields =>
    simp (disch := omega) [cr1Data, unpackCr1, osRatio, extract_or, extract_place_same, extract_place_below,
      extract_place_above]
  case corners =>
    exact ⟨exec_unpackCr1_quiet h 0x00, exec_unpackCr1_quiet h 0xFF, exec_unpackCr1_quiet h 0x19⟩

/-- Settles O21: the four values of bits 1:0 decide the mode and its code. -/
theorem decodeModeGivesTheCode : Obligations.DecodeModeGivesTheCode := by
  refine ⟨fun w byte => ?word, fun s byte h => ?response, fun b => ?modes, fun s b f => rfl, by decide⟩
  case word =>
    simp (disch := omega) [decode_eq_ok_iff, Instr.opcode, decodeFields, unlessReserved_eq_ok_iff, extract_argOf]
  case response => rw [exec_decodeMode_quiet h, modeData_decodeMode]
  case modes => obtain ⟨hb, hm⟩ | ⟨hb, hm⟩ | ⟨hb, hm⟩ | ⟨hb, hm⟩ := decodeMode_cases b <;> simp [hb, hm]

/-- GET_STATE's only word (40_register_map.md R78). -/
theorem decode_eq_getState_iff {w : Word} : decode w = .ok .getState ↔ w = 0x7000 := by
  constructor
  · intro h
    obtain ⟨hopc, harg⟩ := decode_eq_ok_iff.mp h
    obtain ⟨hzero, -⟩ := unlessReserved_eq_ok_iff.mp harg
    rw [← place_opcOf_argOf w, hzero, show opcOf w = 0x7 from hopc]
    rfl
  · rintro rfl
    exact decode_encode .getState

/-- Settles O22: the layout of DATA, with the binding read while OPEN and 0 while CLOSED. -/
theorem getStateShowsTheSession : Obligations.GetStateShowsTheSession := by
  refine ⟨fun w => decode_eq_getState_iff, fun s h hs => ⟨_, exec_getState_closed h hs, ?closed⟩,
    fun s addr bus h hs ha hb => ⟨_, exec_getState_opened h hs ha hb, ?opened⟩, ⟨_, rfl, rfl⟩,
    fun s h hs hm ha hb => ?shown⟩
  case closed =>
    simp (disch := omega) [stateData, Session.code, extract_place_same, extract_place_below, extract_place_above]
  case opened =>
    simp (disch := omega) [stateData, Session.code, extract_or, extract_place_same, extract_place_below,
      extract_place_above]
  case shown =>
    rw [exec_getState_opened h hs ha hb, hm]
    rfl

/-- `CR2_IMG` has RAW in bit 5 and no other bit (40_register_map.md R79). -/
theorem cr2Img_eq_place (p : Params) : cr2Img p = place 8 5 p.raw := by simp [cr2Img, packCr2]

/-- Settles O25: the CR1 images by evaluation; the CR2 image at every `P_ST_POS`, since its self-test bits are 0. -/
theorem configureImages : Obligations.ConfigureImages := by
  refine ⟨by decide, by decide, rfl, rfl, by decide, by decide, by decide, fun p => rfl, fun p hp => ?_, fun p hp => ?_⟩
  · rw [cr2Img_eq_place, hp]
    rfl
  · rw [cr2Img_eq_place, hp]
    rfl

end Sys2Proof.Machine
end

section
/-! OPEN as far as the bind, and TEST_MODE (41_session_mode.md R83, R85, R86): what each command's accepting step and answer
steps are in the words of Safety.lean. -/

namespace Sys2Proof

/-! ### Commands without an argument -/

/-- A command whose whole argument is reserved has one word (30_encoding.md R52). -/
theorem decode_eq_ok_iff_eq_encode {i : Instr} {w : Word}
    (hfields : ∀ arg, decodeFields i.opcode arg = unlessReserved arg i) (harg : i.argument = 0) :
    decode w = .ok i ↔ w = encode i := by
  constructor
  · intro h
    obtain ⟨hopc, hreserved⟩ := decode_eq_ok_iff.mp h
    rw [hfields] at hreserved
    obtain ⟨hzero, -⟩ := unlessReserved_eq_ok_iff.mp hreserved
    rw [← place_opcOf_argOf w, show opcOf w = i.opcode from hopc, hzero, encode, harg]
    rfl
  · rintro rfl
    exact decode_encode i

end Sys2Proof

namespace Sys2Proof.Machine

/-! ### Taking the awaited answer -/

/-- The answer taken, in the words of Safety.lean: the port is free until the command issues or completes. -/
theorem takeAnswer_eq {s : State} {t : Transaction} {a : Answer} {x : Input} {rest : List Input}
    (h : s.inputs = x :: rest) : s.takeAnswer t a = { s.observed t a rest with bus := none } := by
  simp [State.takeAnswer, State.observed, h]

/-- An answer step that takes the awaited answer. -/
theorem onAnswer_awaits {s : State} {k : StepId} {t : Transaction} {a : Answer} {rest : List Input}
    {f : Answer → State → Out} (h : s.Awaits k t a rest) (ht : t.admits a = true) :
    s.onAnswer k f = f a { s.observed t a rest with bus := none } := by
  obtain ⟨-, hbus, hinputs⟩ := h
  rw [onAnswer_answer hbus hinputs ht, takeAnswer_eq hinputs]

/-! ### The steps of OPEN -/

/-- A failed acquire leaves nothing to release (41_session_mode.md R85). -/
theorem failOpen_acquire (e : Status) (s : State) : s.failOpen e .acquire = s.clearSession.raise e .acquire :=
  if_pos rfl

/-- A failure after the acquire is cleaned up first (41_session_mode.md R92). -/
theorem failOpen_of_ne_acquire {e : Status} {k : StepId} {s : State} (hk : k ≠ .acquire) :
    s.failOpen e k = s.startCleanup e k :=
  if_neg hk

/-- OPEN accepted while CLOSED (41_session_mode.md R85). -/
theorem exec_open_closed {s : State} (bus : BusId) (addr : SlaveAddr) (hp : s.ph = .idle) (hs : s.sess = .closed) :
    exec (.openSession bus addr) s = .next ((s.setBusId bus).issue .acquire (.acquire bus)) := by
  simp only [exec, execOpen, hp, hs]

section
variable {s : State} {k : StepId} {t : Transaction} {a : Answer} {rest : List Input}

/-- A FAIL before OPEN's release ends OPEN or starts its cleanup (41_session_mode.md R85, R92). -/
theorem exec_open_awaits_fail (bus : BusId) (addr : SlaveAddr) (h : s.Awaits k t .fail rest) (hk : k ≠ .release) :
    exec (.openSession bus addr) s = .next (State.failOpen .ioError k { s.observed t .fail rest with bus := none }) := by
  rw [exec_open_busy h.1 hk, onAnswer_awaits h (admits_fail t), if_pos rfl]

/-- Any other answer before OPEN's release goes on with the sequence (41_session_mode.md R84). -/
theorem exec_open_awaits (bus : BusId) (addr : SlaveAddr) (h : s.Awaits k t a rest) (hk : k ≠ .release)
    (ht : t.admits a = true) (ha : a ≠ .fail) :
    exec (.openSession bus addr) s = openOk addr k a { s.observed t a rest with bus := none } := by
  rw [exec_open_busy h.1 hk, onAnswer_awaits h ht, if_neg ha]

end

/-- Whatever OPEN leaves on the bus port before the bind is answered, it is no register access (41_session_mode.md R86). -/
theorem exec_open_no_register_access {s t : State} {bus : BusId} {addr : SlaveAddr}
    (hp : s.ph = .idle ∨ s.ph = .busy .acquire) (h : exec (.openSession bus addr) s = .next t) :
    (∀ bytes, t.bus ≠ some (.write bytes)) ∧ ∀ n, t.bus ≠ some (.read n) := by
  rcases hp with hp | hp
  · cases exec_idle_next hp h with
    | respond => simp
    | openSession => simp
  · obtain ⟨_, _, _, -, -, -, hcase⟩ := exec_busy_next hp h
    cases hcase with
    | acquireFailed => simp
    | openFailed _ _ _ _ hacquire => exact absurd rfl hacquire
    | acquired => simp
    | failed _ _ _ hi => simp at hi

/-! ### The steps of TEST_MODE -/

/-- TEST_MODE accepted while CLOSED (41_session_mode.md R83). -/
theorem exec_testMode_closed {s : State} (hp : s.ph = .idle) (hs : s.sess = .closed) :
    exec .testMode s = .next (s.raise .notOpen .noStep) := by
  simp only [exec, execTestMode, hp, hs]

/-- TEST_MODE accepted while OPEN (41_session_mode.md R83). -/
theorem exec_testMode_opened {s : State} (hp : s.ph = .idle) (hs : s.sess = .opened) :
    exec .testMode s = .next (s.testModeWrite .modeAddrWrite) := by
  simp only [exec, execTestMode, hp, hs]

/-- TEST_MODE's answer step. -/
theorem exec_testMode_busy {s : State} {k : StepId} (hp : s.ph = .busy k) :
    exec .testMode s =
      s.onAnswer k fun a s => if a = .fail then .next (s.raise .ioError k) else testModeOk k a s := by
  simp only [exec, execTestMode, hp]

section
variable {s : State} {k : StepId} {t : Transaction} {a : Answer} {rest : List Input}

/-- A FAIL ends TEST_MODE at that step (41_session_mode.md R83). -/
theorem exec_testMode_awaits_fail (h : s.Awaits k t .fail rest) :
    exec .testMode s = .next ((s.observed t .fail rest).completed (errorResponse .ioError k)) := by
  rw [exec_testMode_busy h.1, onAnswer_awaits h (admits_fail t), if_pos rfl]
  rfl

/-- Any other answer goes on with the sub-sequence (41_session_mode.md R82). -/
theorem exec_testMode_awaits (h : s.Awaits k t a rest) (ht : t.admits a = true) (ha : a ≠ .fail) :
    exec .testMode s = testModeOk k a { s.observed t a rest with bus := none } := by
  rw [exec_testMode_busy h.1, onAnswer_awaits h ht, if_neg ha]

/-- TEST_MODE's read answered with a byte (41_session_mode.md R83). -/
theorem exec_testMode_byte {b : Byte} (h : s.Awaits .modeRead (.read 1) (.okBytes [b]) rest) :
    exec .testMode s =
      .next ({ s.observed (.read 1) (.okBytes [b]) rest with cachedMode := decodeMode b }.completed
        (okResponse (testModeData (decodeMode b) b))) := by
  rw [exec_testMode_awaits h rfl (by simp)]
  rfl

end

/-! ### The obligations -/

/-- Settles O29: OPEN's accepting step, and its cleanup when nothing was acquired. -/
theorem openAcquires : Obligations.OpenAcquires := by
  refine ⟨fun s bus addr hp hs => ?accepted, fun s bus addr rest h => ?failed⟩
  case accepted => exact exec_open_closed bus addr hp hs
  case failed =>
    rw [exec_open_awaits_fail bus addr h (by decide), failOpen_acquire]
    rfl

/-- Settles O30: the two answers by OPEN's answer step, the absence of register accesses by its cases. -/
theorem openBinds : Obligations.OpenBinds := by
  refine ⟨fun s bus addr rest h => ?bind, fun s bus addr rest h => ?cleanup,
    fun s t bus addr hp h => exec_open_no_register_access hp h⟩
  case bind => exact exec_open_awaits bus addr h (by decide) rfl (by decide)
  case cleanup =>
    rw [exec_open_awaits_fail bus addr h (by decide), failOpen_of_ne_acquire (by decide)]
    rfl

/-- TEST_MODE's only word (41_session_mode.md R83). -/
theorem decode_eq_testMode_iff {w : Word} : decode w = .ok .testMode ↔ w = 0x9000 :=
  decode_eq_ok_iff_eq_encode (fun _ => rfl) rfl

/-- Settles O37: each answer by TEST_MODE's answer step; DATA by the places of the mode code and the byte. -/
theorem testModeReadsTheMode : Obligations.TestModeReadsTheMode := by
  refine ⟨fun w => decode_eq_testMode_iff, fun s h hs => ?notOpen, fun s hp hs => exec_testMode_opened hp hs, rfl,
    fun s m rest h => exec_testMode_awaits h rfl (by decide), fun s m rest h => exec_testMode_awaits_fail h,
    fun s rest h => exec_testMode_awaits_fail h, fun s b rest h => ⟨_, exec_testMode_byte h, ?fields⟩,
    fun s rest h => exec_testMode_byte h⟩
  case notOpen => rw [exec_testMode_closed h.1 hs, raise_quiet h]
  case fields =>
    simp (disch := omega) [testModeData, extract_or, extract_place_same, extract_place_below, extract_place_above]

end Sys2Proof.Machine
end

section
/-! READ_SAMPLE, CLOSE and the session checks (42_sample_close.md R95, R100, R101): what each command's accepting step and
answer steps are in the words of Safety.lean, and the bytes of a sample in DATA. -/

namespace Sys2Proof.Machine

/-! ### The steps of READ_SAMPLE -/

/-- READ_SAMPLE with a destination missing, in either session (42_sample_close.md R95). -/
theorem exec_readSample_missing {s : State} {dv : BitVec 3} (hp : s.ph = .idle) (hd : dv ≠ 0b111) :
    exec (.readSample dv) s = .next (s.raise .invalidArgument .noStep) := by
  have hmissing : allDestinations dv = false := decide_eq_false hd
  simp only [exec, execReadSample, hp, hmissing, Bool.false_eq_true, if_false]

/-- READ_SAMPLE with every destination, accepted while CLOSED (42_sample_close.md R95). -/
theorem exec_readSample_closed {s : State} (hp : s.ph = .idle) (hs : s.sess = .closed) :
    exec (.readSample 0b111) s = .next (s.raise .notOpen .noStep) := by
  have hall : allDestinations 0b111 = true := rfl
  simp only [exec, execReadSample, hp, hs, hall, if_true]

/-- READ_SAMPLE with every destination, accepted while OPEN (42_sample_close.md R95). -/
theorem exec_readSample_opened {s : State} (hp : s.ph = .idle) (hs : s.sess = .opened) :
    exec (.readSample 0b111) s = .next (s.issueAddrWrite .sampleAddrWrite Reg.outXMsb.addr) := by
  have hall : allDestinations 0b111 = true := rfl
  simp only [exec, execReadSample, hp, hs, hall, if_true]

/-- READ_SAMPLE's answer step. -/
theorem exec_readSample_busy {s : State} {k : StepId} (dv : BitVec 3) (hp : s.ph = .busy k) :
    exec (.readSample dv) s =
      s.onAnswer k fun a s => if a = .fail then .next (s.raise .ioError k) else readSampleOk k a s := by
  simp only [exec, execReadSample, hp]

section
variable {s : State} {k : StepId} {t : Transaction} {a : Answer} {rest : List Input}

/-- A FAIL ends READ_SAMPLE at that step (42_sample_close.md R95). -/
theorem exec_readSample_awaits_fail (dv : BitVec 3) (h : s.Awaits k t .fail rest) :
    exec (.readSample dv) s = .next ((s.observed t .fail rest).completed (errorResponse .ioError k)) := by
  rw [exec_readSample_busy dv h.1, onAnswer_awaits h (admits_fail t), if_pos rfl]
  rfl

/-- Any other answer goes on with the sequence (42_sample_close.md R95). -/
theorem exec_readSample_awaits (dv : BitVec 3) (h : s.Awaits k t a rest) (ht : t.admits a = true) (ha : a ≠ .fail) :
    exec (.readSample dv) s = readSampleOk k a { s.observed t a rest with bus := none } := by
  rw [exec_readSample_busy dv h.1, onAnswer_awaits h ht, if_neg ha]

/-- READ_SAMPLE's burst answered with six bytes (42_sample_close.md R95). -/
theorem exec_readSample_burst (dv : BitVec 3) {b0 b1 b2 b3 b4 b5 : Byte}
    (h : s.Awaits .sampleRead (.read 6) (.okBytes [b0, b1, b2, b3, b4, b5]) rest) :
    exec (.readSample dv) s =
      .next ({ s.observed (.read 6) (.okBytes [b0, b1, b2, b3, b4, b5]) rest with
        wb := some { b0 := b0, b1 := b1, b2 := b2, b3 := b3, b4 := b4, b5 := b5 } }.completed
        (okResponse (sampleData (reassemble { b0 := b0, b1 := b1, b2 := b2, b3 := b3, b4 := b4, b5 := b5 })))) := by
  rw [exec_readSample_awaits dv h rfl (by simp)]
  rfl

end

/-! ### The steps of CLOSE -/

/-- CLOSE accepted while CLOSED (42_sample_close.md R100). -/
theorem exec_close_closed {s : State} (hp : s.ph = .idle) (hs : s.sess = .closed) :
    exec .closeSession s = .next (s.raise .notOpen .noStep) := by
  simp only [exec, execClose, hp, hs]

/-- CLOSE accepted while OPEN (42_sample_close.md R100). -/
theorem exec_close_opened {s : State} (hp : s.ph = .idle) (hs : s.sess = .opened) :
    exec .closeSession s = .next (s.issue .release .release) := by
  simp only [exec, execClose, hp, hs]

/-- CLOSE's release answered (42_sample_close.md R100). -/
theorem exec_close_awaits {s : State} {t : Transaction} {a : Answer} {rest : List Input}
    (h : s.Awaits .release t a rest) (ht : t.admits a = true) :
    exec .closeSession s = .next (State.closeAnswered a { s.observed t a rest with bus := none }) := by
  have hbusy : exec .closeSession s = s.onAnswer .release fun a s => .next (s.closeAnswered a) := by
    simp only [exec, execClose, h.1]
  rw [hbusy, onAnswer_awaits h ht]

/-! ### The session check of OPEN -/

/-- OPEN accepted while OPEN (41_session_mode.md R84). -/
theorem exec_open_opened {s : State} (bus : BusId) (addr : SlaveAddr) (hp : s.ph = .idle) (hs : s.sess = .opened) :
    exec (.openSession bus addr) s = .next (s.raise .alreadyOpen .noStep) := by
  simp only [exec, execOpen, hp, hs]

/-! ### The obligations -/

/-- Settles O38: each answer by READ_SAMPLE's answer step; DATA by the places of the lanes and of the bytes in a lane. -/
theorem readSampleDeliversTheSample : Obligations.ReadSampleDeliversTheSample := by
  refine ⟨fun w dv => ?word, fun s dv h hd => ?missing, fun s h hs => ?notOpen,
    fun s hp hs => exec_readSample_opened hp hs, fun s rest h => exec_readSample_awaits _ h rfl (by decide),
    fun s rest h => exec_readSample_awaits_fail _ h, fun s rest h => exec_readSample_awaits_fail _ h,
    fun s b0 b1 b2 b3 b4 b5 rest h => ⟨_, exec_readSample_burst _ h, ?bytes⟩,
    fun s rest h => ⟨_, exec_readSample_burst _ h, rfl⟩, by decide, by decide, by decide⟩
  case word =>
    simp (disch := omega) [decode_eq_ok_iff, Instr.opcode, decodeFields, unlessReserved_eq_ok_iff, extract_argOf]
  case missing => rw [exec_readSample_missing h.1 hd, raise_quiet h]
  case notOpen => rw [exec_readSample_closed h.1 hs, raise_quiet h]
  case bytes =>
    simp (disch := omega) [sampleData, reassemble, lane, extract_or, extract_place_same, extract_place_within,
      extract_place_below, extract_place_above]

/-- CLOSE's only word (42_sample_close.md R100). -/
theorem decode_eq_closeSession_iff {w : Word} : decode w = .ok .closeSession ↔ w = 0xB000 :=
  decode_eq_ok_iff_eq_encode (fun _ => rfl) rfl

/-- Settles O42: both answers of the release go through the one equation of CLOSE's answer step. -/
theorem closeReleasesAndCloses : Obligations.CloseReleasesAndCloses := by
  refine ⟨fun w => decode_eq_closeSession_iff, fun s h hs => ?notOpen, fun s hp hs => exec_close_opened hp hs,
    fun s rest h => exec_close_awaits h rfl, fun s rest h => exec_close_awaits h rfl⟩
  case notOpen => rw [exec_close_closed h.1 hs, raise_quiet h]

/-- Settles O43: each check is the command's accepting step in that session, and a quiet refusal writes the response alone. -/
theorem sessionChecks : Obligations.SessionChecks := by
  refine ⟨fun s i h hs hi => ?notOpen, fun s bus addr h hs => exec_open_closed bus addr h.1 hs,
    fun s bus addr h hs => ?alreadyOpen⟩
  case notOpen =>
    rw [← raise_quiet h]
    obtain rfl | rfl | rfl := hi
    · exact exec_testMode_closed h.1 hs
    · exact exec_readSample_closed h.1 hs
    · exact exec_close_closed h.1 hs
  case alreadyOpen => rw [exec_open_opened bus addr h.1 hs, raise_quiet h]

end Sys2Proof.Machine
end

section
/-! The two directions of decoding (30_encoding.md R52 to R54, R63, R64): a word that decodes is the word of its command, the
opcode table covers exactly the words that decode, and the rest are rejected by name. -/

namespace Sys2Proof

/-! ### An argument is the disjunction of its fields -/

/-- Two fields next to each other are one longer field. -/
theorem place_join {w : Nat} (x : BitVec w) (a n m : Nat) :
    place w (a + n) (x.extractLsb' (a + n) m) ||| place w a (x.extractLsb' a n) = place w a (x.extractLsb' a (n + m)) := by
  refine BitVec.eq_of_getLsbD_eq fun i hi => ?_
  rw [BitVec.getLsbD_or, getLsbD_place, getLsbD_place, getLsbD_place, BitVec.getLsbD_extractLsb',
    BitVec.getLsbD_extractLsb', BitVec.getLsbD_extractLsb']
  obtain hlow | hlow := Nat.lt_or_ge i a
  · simp [show ¬ a ≤ i by omega, show ¬ a + n ≤ i by omega]
  · rw [show a + (i - a) = i by omega]
    obtain hmid | hmid := Nat.lt_or_ge i (a + n)
    · simp [hi, hlow, show ¬ a + n ≤ i by omega, show i - a < n by omega, show i - a < n + m by omega,
        -BitVec.getLsbD_eq_getElem]
    · rw [show a + n + (i - (a + n)) = i by omega]
      simp [hi, hlow, hmid, show ¬ i - a < n by omega, show i - (a + n) < m ↔ i - a < n + m by omega,
        -BitVec.getLsbD_eq_getElem]

/-- A value whose high part is 0 is its low part. -/
theorem place_low {w n : Nat} {x : BitVec w} (hn : n ≤ w) (h : x.extractLsb' n (w - n) = 0) :
    place w 0 (x.extractLsb' 0 n) = x := by
  have hsplit := place_split x n hn
  rwa [h, BitVec.ofNat_eq_ofNat, place_zero, BitVec.zero_or] at hsplit

/-- The argument of a command with one field, at bit 0, is that field (30_encoding.md R52). -/
theorem place_of_unlessReserved {n : Nat} {arg : BitVec 12} {v : BitVec n} {c : BitVec n → Instr} (hn : n ≤ 12)
    (hc : ∀ u v, c u = c v → u = v)
    (h : unlessReserved (arg.extractLsb' n (12 - n)) (c (arg.extractLsb' 0 n)) = .ok (c v)) : place 12 0 v = arg := by
  obtain ⟨hzero, hi⟩ := unlessReserved_eq_ok_iff.mp h
  rw [← hc _ _ hi]
  exact place_low hn hzero

/-- An argument that decodes to a command is the command's argument: no bit of it is lost. -/
theorem argument_of_decodeFields {i : Instr} {arg : BitVec 12} (h : decodeFields i.opcode arg = .ok i) :
    i.argument = arg := by
  cases i
  case packCr1 =>
    obtain ⟨hzero, hi⟩ := unlessReserved_eq_ok_iff.mp h
    obtain ⟨rfl, rfl, rfl, rfl, rfl⟩ := Instr.packCr1.inj hi
    simp only [Instr.argument]
    rw [place_join arg 3 4 3, place_join arg 2 1 7, place_join arg 1 1 8, place_join arg 0 1 9]
    exact place_low (by decide) hzero
  case packCr2 =>
    obtain ⟨hzero, hi⟩ := unlessReserved_eq_ok_iff.mp h
    obtain ⟨rfl, rfl, rfl, rfl, rfl, rfl⟩ := Instr.packCr2.inj hi
    simp only [Instr.argument]
    rw [place_join arg 4 1 1, place_join arg 3 1 2, place_join arg 2 1 3, place_join arg 1 1 4, place_join arg 0 1 5]
    exact place_low (by decide) hzero
  case openSession =>
    obtain ⟨rfl, rfl⟩ := Instr.openSession.inj (Except.ok.inj h)
    exact place_split arg 7 (by decide)
  case regAddr => exact place_of_unlessReserved (by decide) (fun _ _ => Instr.regAddr.inj) h
  case unpackCr1 => exact place_of_unlessReserved (by decide) (fun _ _ => Instr.unpackCr1.inj) h
  case unpackCr2 => exact place_of_unlessReserved (by decide) (fun _ _ => Instr.unpackCr2.inj) h
  case decodeMode => exact place_of_unlessReserved (by decide) (fun _ _ => Instr.decodeMode.inj) h
  case readSample => exact place_of_unlessReserved (by decide) (fun _ _ => Instr.readSample.inj) h
  case getState => exact (unlessReserved_eq_ok_iff.mp h).1.symm
  case testMode => exact (unlessReserved_eq_ok_iff.mp h).1.symm
  case closeSession => exact (unlessReserved_eq_ok_iff.mp h).1.symm

/-- A word that decodes is the word of its command (30_encoding.md R63, R64). -/
theorem encode_of_decode {w : Word} {i : Instr} (h : decode w = .ok i) : encode i = w := by
  obtain ⟨hopc, hargument⟩ := decode_eq_ok_iff.mp h
  rw [encode, argument_of_decodeFields hargument, ← show opcOf w = i.opcode from hopc, place_opcOf_argOf]

/-- Settles O1: each field is extracted from where it was placed. -/
theorem decodeInvertsEncode : Obligations.DecodeInvertsEncode := decode_encode

/-- Settles O2: the fields of an argument and its reserved bits, which are 0, make up the whole argument. -/
theorem encodeInvertsDecode : Obligations.EncodeInvertsDecode := fun _ _ => encode_of_decode

/-! ### Match and mask -/

/-- Where a row's mask is all ones, a word it covers has the bits of its pattern. -/
theorem extract_of_covers {r : OpRow} {w : Word} {a m : Nat} (h : r.covers w = true)
    (hmask : r.mask.extractLsb' a m = BitVec.allOnes m) : w.extractLsb' a m = r.pattern.extractLsb' a m := by
  rw [← show w &&& r.mask = r.pattern from of_decide_eq_true h, BitVec.extractLsb'_and, hmask, BitVec.and_allOnes]

/-- The rows of the opcode table are the commands' rows. -/
theorem row_mem_opcodeTable (i : Instr) : i.row ∈ opcodeTable := by
  cases i <;> simp [Instr.row, opcodeTable]

/-- The row of a command covers the command's word (30_encoding.md R63). -/
theorem row_covers_encode (i : Instr) : i.row.covers (encode i) = true := by
  refine decide_eq_true (BitVec.eq_of_getLsbD_eq fun j hj => ?_)
  cases i <;> interval_cases j <;>
    simp [Instr.row, encode, Instr.opcode, Instr.argument, -BitVec.getLsbD_eq_getElem]

/-- A word that a row covers decodes by the opcode of the row's pattern, to the command whose reserved bits are 0. -/
theorem exists_decode_of_reserved {w : Word} {r : OpRow} {opc : BitVec 4} {n : Nat} {reserved : BitVec n} {i : Instr}
    (h : r.covers w = true) (hmask : r.mask.extractLsb' 12 4 = BitVec.allOnes 4) (hopc : r.pattern.extractLsb' 12 4 = opc)
    (hfields : decodeFields opc (argOf w) = unlessReserved reserved i) (hzero : reserved = 0) (hrow : i.row = r) :
    ∃ i, decode w = .ok i ∧ i.row = r := by
  have hw : opcOf w = opc := (extract_of_covers h hmask).trans hopc
  refine ⟨i, ?_, hrow⟩
  rw [decode, hw, hfields, hzero]
  exact unlessReserved_zero i

/-- Where a row's mask is all ones and its pattern 0, an argument it covers is 0. -/
theorem extract_argOf_eq_zero {r : OpRow} {w : Word} {a m : Nat} (h : r.covers w = true) (ham : a + m ≤ 12)
    (hmask : r.mask.extractLsb' a m = BitVec.allOnes m) (hzero : r.pattern.extractLsb' a m = 0) :
    (argOf w).extractLsb' a m = 0 := by
  rw [extract_argOf w a m ham, extract_of_covers h hmask, hzero]

/-- A word that a row covers decodes to a command of that row (30_encoding.md R63): the row's mask is all ones on the opcode
and on the reserved bits of its argument, and its pattern is 0 on the latter. -/
theorem exists_decode_of_covers {w : Word} {r : OpRow} (hr : r ∈ opcodeTable) (h : r.covers w = true) :
    ∃ i, decode w = .ok i ∧ i.row = r := by
  simp only [opcodeTable, List.mem_cons, List.not_mem_nil, or_false] at hr
  obtain rfl | rfl | rfl | rfl | rfl | rfl | rfl | rfl | rfl | rfl | rfl := hr
  -- The rows whose reserved bits stand above a field.
  any_goals exact exists_decode_of_reserved h rfl rfl rfl (extract_argOf_eq_zero h (by decide) rfl rfl) rfl
  -- The rows whose whole argument is reserved.
  any_goals exact exists_decode_of_reserved h rfl rfl rfl (extract_of_covers (a := 0) (m := 12) h rfl) rfl
  -- OPEN's row, which reserves no bit.
  exact exists_decode_of_reserved (reserved := 0#0) h rfl rfl rfl rfl rfl

/-- Settles O3: a word that decodes is the word of its command, which the command's row covers. -/
theorem wordIsCommandIffItsRowCoversIt : Obligations.WordIsCommandIffItsRowCoversIt := by
  refine ⟨fun w i h => ⟨row_mem_opcodeTable i, ?covered⟩, fun w r hr h => exists_decode_of_covers hr h⟩
  case covered =>
    rw [← encode_of_decode h]
    exact row_covers_encode i

/-! ### Rejected words -/

/-- A reserved bit is never taken for a reserved opcode (30_encoding.md R53). -/
theorem unlessReserved_ne_reservedOpcode {n : Nat} (r : BitVec n) (i : Instr) :
    unlessReserved r i ≠ .error .reservedOpcode := by
  by_cases hr : r = 0#n <;> simp [unlessReserved, hr]

/-- Every opcode is reserved or assigned (30_encoding.md R51, R54). -/
theorem opcode_reserved_or_assigned :
    ∀ opc : BitVec 4, (opc = 0 ∨ 0xC ≤ opc) ∨ opc ∈ [1, 2, 3, 4, 5, 6, 7, 8, 9, 0xA, 0xB] := by decide

/-- The opcodes that are rejected (30_encoding.md R54). -/
theorem decodeFields_eq_reservedOpcode_iff {opc : BitVec 4} {arg : BitVec 12} :
    decodeFields opc arg = .error .reservedOpcode ↔ opc = 0 ∨ 0xC ≤ opc := by
  unfold decodeFields
  split
  case h_12 h1 h2 h3 h4 h5 h6 h7 h8 h9 hA hB =>
    refine iff_of_true rfl ((opcode_reserved_or_assigned opc).resolve_right ?_)
    simp only [List.mem_cons, List.not_mem_nil, or_false, not_or]
    exact ⟨h1, h2, h3, h4, h5, h6, h7, h8, h9, hA, hB⟩
  case h_8 => exact iff_of_false (by simp) (by decide)
  all_goals exact iff_of_false (unlessReserved_ne_reservedOpcode _ _) (by decide)

/-- Settles O4: the rejected opcodes are those of no command, and what else is rejected is no command's word. -/
theorem wordsAreRejectedByName : Obligations.WordsAreRejectedByName := by
  refine ⟨fun w => decodeFields_eq_reservedOpcode_iff,
    fun w => ⟨fun h => ⟨?assigned, ?noCommand⟩, fun ⟨hopc, hne⟩ => ?_⟩⟩
  case assigned =>
    rw [← decodeFields_eq_reservedOpcode_iff (arg := argOf w)]
    exact fun ho => by cases h.symm.trans ho
  case noCommand =>
    rintro i rfl
    rw [decode_encode] at h
    cases h
  match hd : decode w with
  | .ok i => exact absurd (encode_of_decode hd) (hne i)
  | .error .reservedOpcode => exact absurd (decodeFields_eq_reservedOpcode_iff.mp hd) hopc
  | .error .reservedArgument => rfl

/-- Settles O5, by evaluation. -/
theorem specWordsDecode : Obligations.SpecWordsDecode := by
  unfold Obligations.SpecWordsDecode
  decide

end Sys2Proof

namespace Sys2Proof.Machine

/-! ### The line that spells a command out -/

/-- The line that spells a command out stands for it. -/
theorem instr_disassemble (i : Instr) : (disassemble i).instr = i := by
  cases i <;> simp [disassemble, AsmLine.instr, AsmLine.value_cons_of_ne]

/-- The line that spells a command out gives its own keys, each once, and values that fit. -/
theorem disassemble_checks (i : Instr) :
    (disassemble i).keysKnown = true ∧ (disassemble i).keysOnce = true ∧ (disassemble i).valuesFit = true := by
  refine ⟨by cases i <;> rfl, by cases i <;> rfl, ?_⟩
  have hbit (v : Bit) : v.toNat ≤ 1 := Nat.le_of_lt_succ v.isLt
  cases i <;>
    simp [AsmLine.valuesFit, disassemble, asmKeys, AsmLine.value_cons_of_ne, BitVec.isLt, hbit, -Nat.reducePow]

/-- Settles O6: the assembler's three checks hold of a spelled-out line, and the last fails where a value does not fit. -/
theorem assemblyRoundTrip : Obligations.AssemblyRoundTrip := by
  refine ⟨fun i => ⟨encode i, AsmLine.assemble_eq_ok_iff.mpr ⟨disassemble_checks i, ?_⟩, decode_encode i⟩,
    fun l k n hk hn w h => ?_⟩
  · rw [instr_disassemble]
  · obtain ⟨⟨-, -, hfit⟩, -⟩ := AsmLine.assemble_eq_ok_iff.mp h
    exact absurd (of_decide_eq_true (List.all_eq_true.mp hfit (k, n) hk)) (Nat.not_lt.mpr hn)

end Sys2Proof.Machine
end

section
/-! Every step keeps the invariant (10_state.md R20 to R28): what holds of a command while it executes, whatever the step it
waits on, and what a response and an issued transaction make of it. -/

namespace Sys2Proof.Machine

/-! ### A command while it executes -/

/-- What holds while command `i` executes, whatever its step: the part of `Inv` and `BusyWith` that no answer step but the
last one touches. -/
structure Executing (i : Instr) (s : State) : Prop where
  params : s.params.wellFormed = true
  opened : s.sess = .opened → s.busId ≠ none ∧ s.devAddr ≠ none ∧ s.cachedMode ≠ .noBelief
  response : ∀ r, s.rsp = some r → r.legal = true
  cur : s.cur = some (encode i)
  legal : i.wellFormed = true
  noResponse : s.rspValid = false
  session : s.sess = .opened ↔ isOpen i = false
  busId : ∀ bus addr, i = .openSession bus addr → s.busId = some bus

/-- The command in `CUR` is the one a BUSY block executes. -/
theorem Inv.busyWith {s : State} {k : StepId} {w : Word} {i : Instr} (h : Inv s) (hp : s.ph = .busy k)
    (hc : s.cur = some w) (hd : decode w = .ok i) : BusyWith s k i := by
  obtain ⟨j, hj⟩ := h.busy k hp
  obtain rfl : encode j = w := Option.some.inj (hj.cur.symm.trans hc)
  obtain rfl : j = i := Except.ok.inj ((decode_encode j).symm.trans hd)
  exact hj

/-- The transaction on the port is the step's. -/
theorem BusyWith.port_eq {s : State} {k : StepId} {i : Instr} {tx : Transaction} (h : BusyWith s k i)
    (hb : s.bus = some tx) : stepTransaction s.params i k = some tx := by
  obtain ⟨tx', hs, hb'⟩ := h.port
  rw [hs, ← hb', hb]

/-- No error is pending at a step that is no cleanup. -/
theorem BusyWith.pendErr_eq_none {s : State} {k : StepId} {i : Instr} (h : BusyWith s k i)
    (hk : ¬ (isOpen i = true ∧ k = .release)) : s.pendErr = none :=
  Decidable.of_not_not fun hpend => hk (h.pending.mpr hpend)

/-- A BUSY block executes its command, and goes on doing so with the answer taken. -/
theorem BusyWith.executing {s : State} {k : StepId} {i : Instr} (hi : Inv s) (h : BusyWith s k i) (tx : Transaction)
    (a : Answer) : Executing i (s.takeAnswer tx a) where
  params := hi.params
  opened := hi.opened
  response := hi.response
  cur := h.cur
  legal := h.legal
  noResponse := h.noResponse
  session := h.session
  busId := fun bus addr he => (h.binding bus addr he).1

namespace Executing
variable {i : Instr} {s : State}

/-- A decoded mode is a belief. -/
theorem setCachedMode (h : Executing i s) (b : Byte) : Executing i (s.setCachedMode (decodeMode b)) :=
  { h with
    opened := fun hs =>
      have ⟨hbus, haddr, _⟩ := h.opened hs
      ⟨hbus, haddr, decodeMode_ne_noBelief b⟩ }

/-- `M0` is no part of what holds. -/
theorem setM0 (h : Executing i s) (m : Mode) : Executing i (s.setM0 m) := { h with }

/-- Nor is `WB`. -/
theorem setWb (h : Executing i s) (b : Burst) : Executing i (s.setWb b) := { h with }

/-- Only OPEN writes `DEV_ADDR`. -/
theorem setDevAddr {bus : BusId} {addr : SlaveAddr} (h : Executing (.openSession bus addr) s) :
    Executing (.openSession bus addr) (s.setDevAddr addr) :=
  { h with opened := fun hs => nomatch h.session.mp hs }

end Executing

/-! ### What a step leaves -/

/-- A state without a transaction outstanding meets the invariant. -/
theorem inv_respond {s : State} {e : Status} {k : StepId} {d : Data} (hp : s.params.wellFormed = true)
    (hc : s.sess = .closed → s.busId = none ∧ s.devAddr = none ∧ s.cachedMode = .noBelief)
    (ho : s.sess = .opened → s.busId ≠ none ∧ s.devAddr ≠ none ∧ s.cachedMode ≠ .noBelief)
    (hl : Response.legal { status := e, step := k, data := d } = true) : Inv (s.respond e k d) where
  params := hp
  idle := fun _ => ⟨rfl, rfl⟩
  closed := fun _ => hc
  opened := ho
  busy := fun _ h => nomatch h
  valid := fun _ => Option.some_ne_none _
  response := fun _ h => Option.some.inj h ▸ hl

/-- A response that leaves the session cleared meets the invariant. -/
theorem inv_clearSession_respond {s : State} {e : Status} {k : StepId} {d : Data} (hp : s.params.wellFormed = true)
    (hl : Response.legal { status := e, step := k, data := d } = true) : Inv (s.clearSession.respond e k d) :=
  inv_respond hp (fun _ => ⟨rfl, rfl, rfl⟩) (fun h => nomatch h) hl

namespace Executing
variable {i : Instr} {s : State}

/-- A response in an open session. -/
theorem inv_respond (h : Executing i s) (hi : isOpen i = false) {e : Status} {k : StepId} {d : Data}
    (hl : Response.legal { status := e, step := k, data := d } = true) : Inv (s.respond e k d) :=
  Machine.inv_respond h.params (fun hc => nomatch hc.symm.trans (h.session.mpr hi)) h.opened hl

/-- The command's next transaction. -/
theorem inv_issue (h : Executing i s) {k : StepId} {t : Transaction} (hport : stepTransaction s.params i k = some t)
    (hdev : ∀ bus addr, i = .openSession bus addr → k ≠ .acquire → s.devAddr = some addr) (hpend : s.pendErr = none)
    (hk : ¬ (isOpen i = true ∧ k = .release)) : Inv (s.issue k t) where
  params := h.params
  idle := fun hp => nomatch hp
  closed := fun hp => nomatch hp
  opened := h.opened
  busy := fun k' hp => ⟨i, by
    cases hp
    exact
      { cur := h.cur, legal := h.legal, port := ⟨t, hport, rfl⟩, noResponse := h.noResponse, session := h.session,
        binding := fun bus addr he => ⟨h.busId bus addr he, hdev bus addr he⟩,
        pending := ⟨fun hr => absurd hr hk, fun hne => absurd hpend hne⟩,
        pendingLegal := fun e he => nomatch he.symm.trans hpend }⟩
  valid := fun hv => nomatch hv.symm.trans h.noResponse
  response := h.response

/-- OPEN's cleanup release. -/
theorem inv_startCleanup {bus : BusId} {addr : SlaveAddr} (h : Executing (.openSession bus addr) s)
    (hdev : s.devAddr = some addr) {e : Status} {k : StepId}
    (hl : Response.legal { status := e, step := k, data := 0 } = true) (he : e ≠ .ok) : Inv (s.startCleanup e k) where
  params := h.params
  idle := fun hp => nomatch hp
  closed := fun hp => nomatch hp
  opened := h.opened
  busy := fun k' hp => ⟨.openSession bus addr, by
    cases hp
    exact
      { cur := h.cur, legal := h.legal, port := ⟨_, rfl, rfl⟩, noResponse := h.noResponse, session := h.session,
        binding := fun bus' addr' he => ⟨h.busId bus' addr' he, fun _ => (by cases he; exact hdev)⟩,
        pending := ⟨fun _ => Option.some_ne_none _, fun _ => ⟨rfl, rfl⟩⟩,
        pendingLegal := fun e' he' => Option.some.inj he' ▸ ⟨hl, he⟩ }⟩
  valid := fun hv => nomatch hv.symm.trans h.noResponse
  response := h.response

end Executing

/-! ### The kinds of steps -/

/-- The inputs still to come are no part of the invariant. -/
theorem Inv.dropInput {s : State} (h : Inv s) : Inv s.dropInput :=
  { h with busy := fun k hp => (h.busy k hp).imp fun _ hi => { hi with } }

/-- After a reset. -/
theorem inv_resetBlock {s : State} (h : s.params.wellFormed = true) : Inv s.resetBlock where
  params := h
  idle := fun _ => ⟨rfl, rfl⟩
  closed := fun _ _ => ⟨rfl, rfl, rfl⟩
  opened := fun h => nomatch h
  busy := fun _ h => nomatch h
  valid := fun h => nomatch h
  response := fun _ h => nomatch h

/-- A word accepted and answered at once. -/
theorem Inv.accept_respond {s : State} (h : Inv s) (hp : s.ph = .idle) (w : Word) {e : Status} {d : Data}
    (hl : Response.legal { status := e, step := .noStep, data := d } = true) :
    Inv ((s.accept w).respond e .noStep d) :=
  inv_respond h.params (h.closed hp) h.opened hl

/-- A session command accepted in the session it needs. -/
theorem Inv.accept_executing {s : State} {w : Word} {i : Instr} (h : Inv s) (hd : decode w = .ok i)
    (hi : i.wellFormed = true) (ho : isOpen i = false) (hs : s.sess = .opened) : Executing i (s.accept w) where
  params := h.params
  opened := h.opened
  response := h.response
  cur := congrArg some (encode_of_decode hd).symm
  legal := hi
  noResponse := rfl
  session := iff_of_true hs ho
  busId := fun bus addr he => by
    subst he
    cases ho

/-- Acceptance keeps the invariant. -/
theorem AcceptCase.inv {s t : State} {w : Word} {i : Instr} (hinv : Inv s) (hp : s.ph = .idle)
    (hd : decode w = .ok i) (h : AcceptCase i (s.accept w) t) : Inv t := by
  have hpend : s.pendErr = none := (hinv.idle hp).2
  cases h with
  | respond _ _ e d hdata he =>
    refine hinv.accept_respond hp w ?_
    obtain ⟨rfl, -⟩ | ⟨-, rfl⟩ := hdata
    · rfl
    · obtain rfl | rfl | ⟨rfl, -⟩ | ⟨rfl, -⟩ := he <;> rfl
  | openSession bus addr _ hs =>
    have hexec : Executing (.openSession bus addr) ((s.accept w).setBusId bus) :=
      { params := hinv.params, opened := fun ho => (nomatch ho.symm.trans hs), response := hinv.response,
        cur := congrArg some (encode_of_decode hd).symm, legal := rfl, noResponse := rfl,
        session := iff_of_false (fun ho => nomatch ho.symm.trans hs) (by simp [isOpen]),
        busId := fun _ _ he => by cases he; rfl }
    exact hexec.inv_issue rfl (fun _ _ _ hk => absurd rfl hk) hpend (by simp)
  | testMode _ hs =>
    exact (hinv.accept_executing hd rfl rfl hs).inv_issue rfl (fun _ _ he => nomatch he) hpend (by simp)
  | readSample dv _ hs hdv =>
    exact (hinv.accept_executing hd hdv rfl hs).inv_issue rfl (fun _ _ he => nomatch he) hpend (by simp)
  | closeSession _ hs =>
    exact (hinv.accept_executing hd rfl rfl hs).inv_issue rfl (fun _ _ he => nomatch he) hpend (by simp [isOpen])

/-- The response to a transaction's failure has the legal shape. -/
theorem ioError_legal {p : Params} {i : Instr} {k : StepId} {t : Transaction} (h : stepTransaction p i k = some t) :
    Response.legal { status := .ioError, step := k, data := 0 } = true := by
  simpa [Response.legal] using stepTransaction_isTransaction h

/-- An answer step keeps the invariant. -/
theorem AnswerCase.inv {s t : State} {k : StepId} {i : Instr} {tx : Transaction} {a : Answer} (hinv : Inv s)
    (hbusy : BusyWith s k i) (hb : s.bus = some tx) (h : AnswerCase i k a (s.takeAnswer tx a) t) : Inv t := by
  have hexec : Executing i (s.takeAnswer tx a) := hbusy.executing hinv tx a
  have hport : stepTransaction s.params i k = some tx := hbusy.port_eq hb
  have hpend := hbusy.pendErr_eq_none
  have hdev := fun bus addr hi => (hbusy.binding bus addr hi).2
  cases h with
  | cleaned bus addr _ _ e he => exact inv_clearSession_respond hinv.params (hbusy.pendingLegal e he).1
  | acquireFailed | closeFailed | closed => exact inv_clearSession_respond hinv.params rfl
  | openFailed bus addr _ _ hacquire =>
    exact hexec.inv_startCleanup (hdev bus addr rfl hacquire) (ioError_legal hport) (by decide)
  | acquired =>
    exact hexec.setDevAddr.inv_issue rfl (fun _ _ hi _ => by cases hi; rfl) (hpend (by simp)) (by simp)
  | bound | modeAddressed | standbyForced | cr2Set | activated | confirmAddressed =>
    exact hexec.inv_issue rfl (fun bus addr hi _ => hdev bus addr hi (by decide)) (hpend (by simp)) (by simp)
  | modeStandby _ _ b _ hm =>
    rw [← hm]
    exact ((hexec.setCachedMode b).setM0 _).inv_issue rfl (fun bus addr hi _ => hdev bus addr hi (by decide))
      (hpend (by simp)) (by simp)
  | modeOther _ _ b =>
    exact ((hexec.setCachedMode b).setM0 _).inv_issue rfl (fun bus addr hi _ => hdev bus addr hi (by decide))
      (hpend (by simp)) (by simp)
  | committed bus addr b =>
    have hbusId : s.busId ≠ none := by simp [(hbusy.binding bus addr rfl).1]
    have hdevAddr : s.devAddr ≠ none := by simp [hdev bus addr rfl (by decide)]
    exact inv_respond hinv.params (fun hc => nomatch hc) (fun _ => ⟨hbusId, hdevAddr, decodeMode_ne_noBelief b⟩) rfl
  | notConfirmed bus addr b =>
    exact (hexec.setCachedMode b).inv_startCleanup (hdev bus addr rfl (by decide)) rfl (by decide)
  | failed _ _ _ hi =>
    refine hexec.inv_respond ?_ (ioError_legal hport)
    obtain rfl | ⟨dv, rfl⟩ := hi <;> rfl
  | testAddressed | sampleAddressed => exact hexec.inv_issue rfl (fun _ _ hi => nomatch hi) (hpend (by simp)) (by simp)
  | testDone b => exact (hexec.setCachedMode b).inv_respond rfl rfl
  | sampleDone => exact (hexec.setWb _).inv_respond rfl rfl

/-- Settles O46: by the kinds of steps. -/
theorem stepKeepsTheInvariant : Obligations.StepKeepsTheInvariant := by
  intro s t hinv h
  obtain ⟨rfl, -⟩ | ⟨rfl, -⟩ | ⟨w, -, hp, -, ⟨_, -, rfl⟩ | ⟨i, hd, hcase⟩⟩ |
    ⟨k, tx, a, -, w, i, hp, hb, -, -, hc, hd, hcase⟩ := step_cases h
  · exact inv_resetBlock hinv.params
  · exact hinv.dropInput
  · exact hinv.accept_respond hp w rfl
  · exact hcase.inv hinv hp hd
  · exact hcase.inv hinv (hinv.busyWith hp hc hd) hb

end Sys2Proof.Machine
end

section
/-! The order of bus transactions (20_memory.md R36) and the order force-Standby, CR2, activate (41_session_mode.md R93): what
an answered transaction does to the phase of the bus, and which steps lead to the writes of Configure. -/

namespace Sys2Proof.Machine

/-! ### The phase of the bus -/

/-- In IDLE the block knows the bus bound in an open session, and nothing otherwise. -/
theorem knownBusPhase_idle {s : State} (hp : s.ph = .idle) :
    s.knownBusPhase = if s.sess = .opened then some .bound else none := by
  simp only [State.knownBusPhase, hp]

/-- In an open session the bus is bound. -/
theorem knownBusPhase_opened {s : State} (hp : s.ph = .idle) (ho : s.sess = .opened) : s.knownBusPhase = some .bound :=
  (knownBusPhase_idle hp).trans (if_pos ho)

/-- A block that has just answered knows nothing of the bus but that it is bound. -/
theorem eq_bound_of_knownBusPhase_respond {s : State} {e : Status} {k : StepId} {d : Data} {q : BusPhase}
    (h : (s.respond e k d).knownBusPhase = some q) : .bound = q := by
  rw [knownBusPhase_idle rfl] at h
  split at h <;> cases h
  rfl

/-- A block that waits on a release has something to release. -/
theorem ne_free_of_release {s : State} {p : BusPhase} (hp : s.ph = .busy .release)
    (hknown : ∀ q, s.knownBusPhase = some q → p = q) : p ≠ .free := by
  rintro rfl
  unfold State.knownBusPhase at hknown
  rw [hp] at hknown
  simp only at hknown
  split at hknown
  · split at hknown <;> cases hknown _ rfl
  · cases hknown _ rfl

/-- A release of a bus that is not free frees it. -/
theorem busNext_release {p : BusPhase} (a : Answer) (h : p ≠ .free) : busNext p .release a = some .free := if_neg h

/-- A transcript extended by an admissible transaction leads to the phase after it. -/
theorem busDiscipline_of_append {s t : State} {tx : Transaction} {a : Answer} {p q : BusPhase}
    (hs : busPhaseFrom .free s.transcript = some p) (ht : t.transcript = s.transcript ++ [(tx, a)])
    (hn : busNext p tx a = some q) (hq : ∀ r, t.knownBusPhase = some r → q = r) : BusDiscipline t :=
  ⟨q, by rw [ht, busPhaseFrom_append, hs]; exact hn, hq⟩

/-- The same transcript, in a state that says no more of the bus. -/
theorem BusDiscipline.congr {s t : State} (h : BusDiscipline s) (ht : t.transcript = s.transcript)
    (hk : t.knownBusPhase = none ∨ t.knownBusPhase = s.knownBusPhase) : BusDiscipline t := by
  obtain ⟨p, hp, hknown⟩ := h
  refine ⟨p, ht ▸ hp, fun q hq => ?_⟩
  obtain hk | hk := hk
  · cases hk.symm.trans hq
  · exact hknown q (hk ▸ hq)

/-- Acceptance issues no transaction that the phase of the bus forbids. -/
theorem AcceptCase.busDiscipline {s t : State} {i : Instr} (hp : s.ph = .idle) (hpend : s.pendErr = none)
    (hs : BusDiscipline s) (h : AcceptCase i s t) : BusDiscipline t := by
  cases h with
  | respond => exact hs.congr rfl (.inr ((knownBusPhase_idle rfl).trans (knownBusPhase_idle hp).symm))
  | openSession => exact hs.congr rfl (.inl rfl)
  | testMode _ ho => exact hs.congr rfl (.inr (knownBusPhase_opened hp ho).symm)
  | readSample _ _ ho => exact hs.congr rfl (.inr (knownBusPhase_opened hp ho).symm)
  | closeSession _ ho =>
    refine hs.congr rfl (.inr (Eq.trans ?_ (knownBusPhase_opened hp ho).symm))
    simp [State.knownBusPhase, hpend]

/-- At a step that is no acquire, bind or release, the bus is bound. -/
theorem knownBusPhase_access {s : State} {k : StepId} (hp : s.ph = .busy k) (hacquire : k ≠ .acquire) (hbind : k ≠ .bind)
    (hrelease : k ≠ .release) : s.knownBusPhase = some .bound := by
  cases k
  case acquire => exact absurd rfl hacquire
  case bind => exact absurd rfl hbind
  case release => exact absurd rfl hrelease
  all_goals simp only [State.knownBusPhase, hp]

/-- The transaction of such a step is a write or a read (60_exceptions.md R111). -/
theorem stepTransaction_is_access {p : Params} {i : Instr} {k : StepId} {tx : Transaction}
    (h : stepTransaction p i k = some tx) (hacquire : k ≠ .acquire) (hbind : k ≠ .bind) (hrelease : k ≠ .release) :
    (∃ bytes, tx = .write bytes) ∨ ∃ n, tx = .read n := by
  cases k
  case acquire => exact absurd rfl hacquire
  case bind => exact absurd rfl hbind
  case release => exact absurd rfl hrelease
  case modeRead | confirmRead | sampleRead => cases i <;> cases h <;> exact .inr ⟨_, rfl⟩
  all_goals cases i <;> cases h <;> exact .inl ⟨_, rfl⟩

/-- A transaction of a step that is no acquire, bind or release is a register access on a bound bus. -/
theorem busNext_access {s : State} {i : Instr} {k : StepId} {tx : Transaction} {p : BusPhase} (a : Answer)
    (hp : s.ph = .busy k) (hport : stepTransaction s.params i k = some tx)
    (hknown : ∀ q, s.knownBusPhase = some q → p = q) (hacquire : k ≠ .acquire) (hbind : k ≠ .bind)
    (hrelease : k ≠ .release) : busNext p tx a = some .bound := by
  obtain rfl := hknown _ (knownBusPhase_access hp hacquire hbind hrelease)
  obtain ⟨bytes, rfl⟩ | ⟨n, rfl⟩ := stepTransaction_is_access hport hacquire hbind hrelease <;> rfl

/-- TEST_MODE and READ_SAMPLE only access registers. -/
theorem step_is_access {p : Params} {i : Instr} {k : StepId} {tx : Transaction}
    (hi : i = .testMode ∨ ∃ dv, i = .readSample dv) (h : stepTransaction p i k = some tx) :
    k ≠ .acquire ∧ k ≠ .bind ∧ k ≠ .release := by
  obtain rfl | ⟨dv, rfl⟩ := hi <;> refine ⟨?_, ?_, ?_⟩ <;> rintro rfl <;> cases h

/-- An answer step keeps the order of transactions. -/
theorem AnswerCase.busDiscipline {s t : State} {k : StepId} {i : Instr} {tx : Transaction} {a : Answer}
    (hp : s.ph = .busy k) (hbusy : BusyWith s k i) (hb : s.bus = some tx) (hs : BusDiscipline s)
    (h : AnswerCase i k a (s.takeAnswer tx a) t) : BusDiscipline t := by
  obtain ⟨p, hphase, hknown⟩ := hs
  have hport : stepTransaction s.params i k = some tx := hbusy.port_eq hb
  have haccess := busNext_access a hp hport hknown
  have hbind : k = .bind → p = .acquired := fun hk => hknown _ (by simp [State.knownBusPhase, hp, hk])
  have hrelease : k = .release → p ≠ .free := fun hk => ne_free_of_release (hk ▸ hp) hknown
  cases h with
  | cleaned | closeFailed | closed =>
    cases hport
    exact busDiscipline_of_append hphase rfl (busNext_release _ (hrelease rfl)) (fun _ => nofun)
  | acquireFailed =>
    cases hport
    exact busDiscipline_of_append hphase rfl rfl (fun _ => nofun)
  | openFailed _ _ _ _ hacquire hrelease =>
    by_cases hk : k = .bind
    · subst hk
      cases hport
      obtain rfl := hbind rfl
      exact busDiscipline_of_append hphase rfl rfl (fun _ hq => Option.some.inj hq)
    · refine busDiscipline_of_append hphase rfl (haccess hacquire hk hrelease) (fun q hq => ?_)
      simpa [State.knownBusPhase, hk] using hq
  | acquired _ _ _ _ ha =>
    cases hport
    exact busDiscipline_of_append hphase rfl (congrArg some (if_neg ha)) (fun _ hq => Option.some.inj hq)
  | bound _ _ _ _ ha =>
    cases hport
    obtain rfl := hbind rfl
    exact busDiscipline_of_append hphase rfl (congrArg some (if_neg ha)) (fun _ hq => Option.some.inj hq)
  | modeAddressed | modeStandby | modeOther | standbyForced | cr2Set | activated | confirmAddressed | notConfirmed |
    testAddressed | sampleAddressed =>
    exact busDiscipline_of_append hphase rfl (haccess (by decide) (by decide) (by decide))
      (fun _ hq => Option.some.inj hq)
  | committed | testDone | sampleDone =>
    exact busDiscipline_of_append hphase rfl (haccess (by decide) (by decide) (by decide))
      (fun _ hq => eq_bound_of_knownBusPhase_respond hq)
  | failed _ _ _ hi =>
    obtain ⟨hacquire, hbind, hrelease⟩ := step_is_access hi hport
    exact busDiscipline_of_append hphase rfl (haccess hacquire hbind hrelease)
      (fun _ hq => eq_bound_of_knownBusPhase_respond hq)

/-- Settles O48: a reset and a refused word say nothing new of the bus; an accepted command and an answered transaction go on in
the phase that the block's state implies. -/
theorem stepKeepsTheBusDiscipline : Obligations.StepKeepsTheBusDiscipline := by
  intro s t hinv hs h
  obtain ⟨rfl, -⟩ | ⟨rfl, -⟩ | ⟨w, -, hp, -, ⟨_, -, rfl⟩ | ⟨i, -, hcase⟩⟩ |
    ⟨k, tx, a, -, w, i, hp, hb, -, -, hc, hd, hcase⟩ := step_cases h
  · exact hs.congr rfl (.inl rfl)
  · exact hs.congr rfl (.inr rfl)
  · exact hs.congr rfl (.inr ((knownBusPhase_idle rfl).trans (knownBusPhase_idle hp).symm))
  · exact hcase.busDiscipline (s := s.accept w) hp (hinv.idle hp).2 (hs.congr rfl (.inr rfl))
  · exact hcase.busDiscipline hp (hinv.busyWith hp hc hd) hb hs

/-! ### Quiesce before activate -/

/-- A state that waits on neither write of the order keeps it. -/
theorem quiesceOrder_of_ne {t : State} (hcr2 : t.ph ≠ .busy .cr2Write) (hactivate : t.ph ≠ .busy .cr1ActiveWrite) :
    QuiesceOrder t :=
  ⟨fun h => absurd h hcr2, fun h => absurd h hactivate⟩

/-- Acceptance leads to neither write. -/
theorem AcceptCase.quiesceOrder {s t : State} {i : Instr} (h : AcceptCase i s t) : QuiesceOrder t := by
  cases h <;> exact quiesceOrder_of_ne (by simp) (by simp)

/-- An answer step leads to the CR2 write from the force-Standby write alone, and to the activate write from the CR2 write or
from a mode read that gave STANDBY. -/
theorem AnswerCase.quiesceOrder {s t : State} {k : StepId} {i : Instr} {tx : Transaction} {a : Answer}
    (hp : s.ph = .busy k) (hport : stepTransaction s.params i k = some tx) (ha : tx.admits a = true)
    (hs : QuiesceOrder s) (h : AnswerCase i k a (s.takeAnswer tx a) t) : QuiesceOrder t := by
  cases h with
  | modeStandby => exact ⟨nofun, fun _ => .inl rfl⟩
  | standbyForced _ _ _ _ hne =>
    cases hport
    obtain rfl := admits_ok ha hne (fun _ => nofun)
    exact ⟨fun _ => ⟨s.transcript, rfl⟩, nofun⟩
  | cr2Set _ _ _ _ hne =>
    cases hport
    obtain rfl := admits_ok ha hne (fun _ => nofun)
    obtain ⟨before, hbefore⟩ := hs.cr2 hp
    refine ⟨nofun, fun _ => .inr ⟨before, ?_⟩⟩
    simp [hbefore, cr2Written, Reg.addr]
  | _ => exact quiesceOrder_of_ne (by simp) (by simp)

/-- Settles O49: only an answer step of OPEN leads to the CR2 write or to the activate write. -/
theorem stepKeepsTheQuiesceOrder : Obligations.StepKeepsTheQuiesceOrder := by
  intro s t hinv hs h
  obtain ⟨rfl, -⟩ | ⟨rfl, -⟩ | ⟨w, -, hp, -, ⟨_, -, rfl⟩ | ⟨i, -, hcase⟩⟩ |
    ⟨k, tx, a, -, w, i, hp, hb, -, ha, hc, hd, hcase⟩ := step_cases h
  · exact quiesceOrder_of_ne (by simp) (by simp)
  · exact ⟨hs.cr2, hs.activate⟩
  · exact quiesceOrder_of_ne (by simp) (by simp)
  · exact hcase.quiesceOrder
  · exact hcase.quiesceOrder hp ((hinv.busyWith hp hc hd).port_eq hb) ha hs

/-- Settles O45: reset waits on nothing and its transcript is empty. -/
theorem resetMeetsTheInvariants : Obligations.ResetMeetsTheInvariants :=
  ⟨inv_resetBlock (s := State.reset) (by decide), ⟨.free, rfl, fun _ => nofun⟩, quiesceOrder_of_ne nofun nofun⟩

end Sys2Proof.Machine
end

section
/-! The Register Map unit (40_register_map.md R65 to R76): the CR1 and CR2 round trips, the one response of every command, and
what that response depends on; and the layouts of a response, a sample and a stored sample. -/

namespace Sys2Proof.Machine

/-! ### The CR1 image -/

/-- Packing the fields of an image gives the image (40_register_map.md R73). -/
theorem packCr1_unpackCr1 (b : Byte) : packCr1 (unpackCr1 b) = b := by
  simp only [packCr1, unpackCr1]
  rw [place_join b 3 2 3, place_join b 2 1 5, place_join b 1 1 6, place_join b 0 1 7]
  exact place_low (n := 8) (by decide) (BitVec.of_length_zero)

/-- The ratio of a ratio's code is the ratio (40_register_map.md R68). -/
theorem osRatio_of_osCode {osr : BitVec 4} {os : BitVec 2} (h : osCode osr = some os) : osRatio os = osr := by
  revert osr os
  decide

/-- The legal oversampling arguments are those with a code (40_register_map.md R68, R70). -/
theorem isSome_osCode (osr : BitVec 4) : (osCode osr).isSome = legalRatio osr := by
  revert osr
  decide

/-- The legal name codes are those that name a register (40_register_map.md R66). -/
theorem isSome_regOfCode (name : BitVec 5) : (regOfCode name).isSome = legalName name := by
  revert name
  decide

/-- The argument of PACK_CR1 and DATA of UNPACK_CR1 have one layout (30_encoding.md R56). -/
theorem cr1Data_eq_argument (dri : BitVec 3) (os : BitVec 2) (fr tm ac : Bit) :
    cr1Data { ac := ac, tm := tm, fr := fr, os := os, dri := dri } =
      ((encode (.packCr1 dri (osRatio os) fr tm ac)).extractLsb' 0 10).setWidth 48 := by
  rw [← extract_argOf _ 0 10 (by decide), argOf_encode]
  refine BitVec.eq_of_getLsbD_eq fun j hj => ?_
  obtain hlow | hhigh := Nat.lt_or_ge j 10
  · simp [cr1Data, Instr.argument, hj, hlow, show j < 12 by omega, -BitVec.getLsbD_eq_getElem]
  · simp (disch := omega) [cr1Data, BitVec.getLsbD_of_ge, -BitVec.getLsbD_eq_getElem]

/-- Settles O17: UNPACK_CR1 answers the fields that PACK_CR1 packed, in the layout of PACK_CR1's argument. -/
theorem cr1RoundTrip : Obligations.Cr1RoundTrip := by
  refine ⟨unpackCr1_packCr1, packCr1_unpackCr1, osCode_osRatio, fun osr os h => osRatio_of_osCode h,
    fun s s' dri osr fr tm ac h h' hlegal => ?_⟩
  obtain ⟨os, hos⟩ := Option.isSome_iff_exists.mp ((isSome_osCode osr).trans hlegal)
  refine ⟨packCr1 { ac := ac, tm := tm, fr := fr, os := os, dri := dri }, ?_, ?_⟩
  · rw [exec_packCr1_of_some h hos, byteData_eq]
  · rw [exec_unpackCr1_quiet h', unpackCr1_packCr1, cr1Data_eq_argument, osRatio_of_osCode hos]

/-! ### The CR2 image -/

/-- A bit extracted from where another was placed. -/
theorem extract_place_of_ne {w a b : Nat} (v : Bit) (h : a ≠ b) : (place w a v).extractLsb' b 1 = 0#1 := by
  obtain h | h := Nat.lt_or_gt_of_ne h
  · exact extract_place_above w a b 1 v h
  · exact extract_place_below w a b 1 v h

/-- A bit placed where it was extracted is that bit of the value alone. -/
theorem place_extract_bit {w : Nat} (x : BitVec w) (k : Nat) : place w k (x.extractLsb' k 1) = x &&& place w k 1#1 := by
  refine BitVec.eq_of_getLsbD_eq fun i hi => ?_
  rw [getLsbD_place, BitVec.getLsbD_and, getLsbD_place, BitVec.getLsbD_extractLsb']
  by_cases hk : i = k
  · subst hk
    simp [hi, -BitVec.getLsbD_eq_getElem]
  · obtain hlt | hgt := Nat.lt_or_gt_of_ne hk
    · simp [show ¬ k ≤ i by omega]
    · simp [show ¬ i - k < 1 by omega, BitVec.getLsbD_of_ge (1#1) (i - k) (by omega), -BitVec.getLsbD_one]

/-- Different self-test positions are different bits (10_state.md R25). -/
theorem crBit_ne {p q : CrPos} (h : p ≠ q) : crBit p ≠ crBit q := by
  cases p <;> cases q <;> simp_all [crBit]

/-- No self-test position is a bit of AUTO, RAW or RST (10_state.md R25). -/
theorem crBit_bounds (p : CrPos) : crBit p < 7 ∧ crBit p ≠ 4 ∧ crBit p ≠ 5 := by
  cases p <;> decide

section
variable {pos : StPos} (hxy : pos.x ≠ pos.y) (hxz : pos.x ≠ pos.z) (hyz : pos.y ≠ pos.z)
include hxy hxz hyz

/-- The fields of a packed CR2 image are those packed (40_register_map.md R76). -/
theorem unpackCr2_packCr2 (f : Cr2Fields) : unpackCr2 pos (packCr2 pos f) = f := by
  obtain ⟨⟨hx, hx4, hx5⟩, ⟨hy, hy4, hy5⟩, ⟨hz, hz4, hz5⟩⟩ :=
    And.intro (crBit_bounds pos.x) (And.intro (crBit_bounds pos.y) (crBit_bounds pos.z))
  obtain ⟨hxy, hxz, hyz⟩ := And.intro (crBit_ne hxy) (And.intro (crBit_ne hxz) (crBit_ne hyz))
  simp (disch := omega) [unpackCr2, packCr2, extract_or, extract_place_same, extract_place_of_ne]

omit hxy hxz hyz in
/-- A position that is no field's is 0 in a CR2 image (40_register_map.md R74). -/
theorem packCr2_bit_of_ne (f : Cr2Fields) {p : CrPos} (hx : p ≠ pos.x) (hy : p ≠ pos.y) (hz : p ≠ pos.z) :
    (packCr2 pos f).extractLsb' (crBit p) 1 = 0 := by
  obtain ⟨hp, hp4, hp5⟩ := crBit_bounds p
  obtain ⟨hx, hy, hz⟩ := And.intro (crBit_ne hx) (And.intro (crBit_ne hy) (crBit_ne hz))
  simp (disch := omega) [packCr2, extract_or, extract_place_of_ne]

end

/-- Unpacking and packing leaves the bits of `CR2_MASK` (40_register_map.md R76). -/
theorem packCr2_unpackCr2 (pos : StPos) (b : Byte) : packCr2 pos (unpackCr2 pos b) = b &&& cr2Mask pos := by
  simp only [packCr2, unpackCr2, cr2Mask, place_extract_bit, BitVec.ofNat_eq_ofNat, BitVec.and_or_distrib_left]

/-- Legal parameters have three different self-test positions (00_scope.md R6). -/
theorem stPos_ne_of_wellFormed {p : Params} (h : p.wellFormed = true) :
    p.stPos.x ≠ p.stPos.y ∧ p.stPos.x ≠ p.stPos.z ∧ p.stPos.y ≠ p.stPos.z := by
  simpa [Params.wellFormed, and_assoc] using h

/-- Settles O20: every field has a bit of its own, and packing keeps no other bit. -/
theorem cr2RoundTrip : Obligations.Cr2RoundTrip := by
  intro p hp
  obtain ⟨hxy, hxz, hyz⟩ := stPos_ne_of_wellFormed hp
  exact ⟨unpackCr2_packCr2 hxy hxz hyz, packCr2_unpackCr2 p.stPos⟩

section
variable {s : State} (h : s.Quiet)
include h

/-- PACK_CR2 (40_register_map.md R75). -/
theorem exec_packCr2_quiet (stz sty stx rst raw auto : Bit) :
    exec (.packCr2 stz sty stx rst raw auto) s = .next (s.answered (okResponse (byteData (packCr2 s.params.stPos
      { auto := auto, raw := raw, rst := rst, stx := stx, sty := sty, stz := stz })))) := by
  rw [exec, execPackCr2, onAccept_idle h.1, done_quiet h]

/-- UNPACK_CR2 (40_register_map.md R76). -/
theorem exec_unpackCr2_quiet (img : Byte) :
    exec (.unpackCr2 img) s = .next (s.answered (okResponse (cr2Data (unpackCr2 s.params.stPos img)))) := by
  rw [exec, execUnpackCr2, onAccept_idle h.1, done_quiet h]

end

/-- Settles O18: the image is `pack_cr2` of the fields, and its fields are those of `unpack_cr2`. -/
theorem packCr2BuildsTheImage : Obligations.PackCr2BuildsTheImage := by
  refine ⟨fun w stz sty stx rst raw auto => ?word, fun s stz sty stx rst raw auto h hp => ?packed, fun s h hp => ?corners⟩
  case word =>
    simp (disch := omega) [decode_eq_ok_iff, Instr.opcode, decodeFields, unlessReserved_eq_ok_iff, extract_argOf]
  case packed =>
    obtain ⟨hxy, hxz, hyz⟩ := stPos_ne_of_wellFormed hp
    have hf := unpackCr2_packCr2 hxy hxz hyz { auto := auto, raw := raw, rst := rst, stx := stx, sty := sty, stz := stz }
    refine ⟨_, by rw [exec_packCr2_quiet h, byteData_eq], congrArg Cr2Fields.auto hf, congrArg Cr2Fields.raw hf,
      congrArg Cr2Fields.rst hf, congrArg Cr2Fields.stx hf, congrArg Cr2Fields.sty hf, congrArg Cr2Fields.stz hf,
      fun p => packCr2_bit_of_ne _⟩
  case corners =>
    refine ⟨?_, ?_, ?_⟩ <;> rw [exec_packCr2_quiet h, hp] <;> rfl

/-- Settles O19: each field stands where the PACK_CR2 layout places it, and no field reaches above bit 5. -/
theorem unpackCr2GivesTheFields : Obligations.UnpackCr2GivesTheFields := by
  refine ⟨fun w img => ?word, fun s img h => ⟨_, exec_unpackCr2_quiet h img, ?fields⟩⟩
  case word =>
    simp (disch := omega) [decode_eq_ok_iff, Instr.opcode, decodeFields, unlessReserved_eq_ok_iff, extract_argOf]
  case fields =>
    simp (disch := omega) [cr2Data, unpackCr2, extract_or, extract_place_same, extract_place_below, extract_place_above]

/-! ### Every Register Map command -/

/-- The answer of a Register Map command other than GET_STATE is a matter of the command and the parameters alone: OK for legal
arguments and INVALID_ARGUMENT for others (40_register_map.md R65). -/
theorem exec_rmu_answers {i : Instr} (p : Params) (hi : isRmu i = true) (hne : i ≠ .getState) :
    ∃ e d, (i.wellFormed = true ∧ e = .ok ∨ i.wellFormed = false ∧ e = .invalidArgument ∧ d = 0) ∧
      ∀ s : State, s.ph = .idle → s.params = p → exec i s = .next (s.respond e .noStep d) := by
  cases i <;> simp only [isRmu, Bool.false_eq_true] at hi
  case getState => exact absurd rfl hne
  case regAddr name =>
    have hlegal : (Instr.regAddr name).wellFormed = (regOfCode name).isSome := (isSome_regOfCode name).symm
    cases hr : regOfCode name with
    | none => exact ⟨_, _, .inr ⟨by rw [hlegal, hr]; rfl, rfl, rfl⟩, fun s hp _ => by
        simp only [exec, execRegAddr, onAccept_idle hp, hr, State.raise_eq]⟩
    | some r => exact ⟨_, byteData r.addr, .inl ⟨by rw [hlegal, hr]; rfl, rfl⟩, fun s hp _ => by
        simp only [exec, execRegAddr, onAccept_idle hp, hr, State.done_eq]⟩
  case packCr1 dri osr fr tm ac =>
    have hlegal : (Instr.packCr1 dri osr fr tm ac).wellFormed = (osCode osr).isSome := (isSome_osCode osr).symm
    cases ho : osCode osr with
    | none => exact ⟨_, _, .inr ⟨by rw [hlegal, ho]; rfl, rfl, rfl⟩, fun s hp _ => by
        simp only [exec, execPackCr1, onAccept_idle hp, ho, State.raise_eq]⟩
    | some os => exact ⟨_, byteData (packCr1 { ac := ac, tm := tm, fr := fr, os := os, dri := dri }),
        .inl ⟨by rw [hlegal, ho]; rfl, rfl⟩, fun s hp _ => by
        simp only [exec, execPackCr1, onAccept_idle hp, ho, State.done_eq]⟩
  case unpackCr1 =>
    exact ⟨_, _, .inl ⟨rfl, rfl⟩, fun s hp _ => by rw [exec, execUnpackCr1, onAccept_idle hp, State.done_eq]⟩
  case packCr2 =>
    exact ⟨_, _, .inl ⟨rfl, rfl⟩, fun s hp hs => by rw [exec, execPackCr2, onAccept_idle hp, hs, State.done_eq]⟩
  case unpackCr2 =>
    exact ⟨_, _, .inl ⟨rfl, rfl⟩, fun s hp hs => by rw [exec, execUnpackCr2, onAccept_idle hp, hs, State.done_eq]⟩
  case decodeMode =>
    exact ⟨_, _, .inl ⟨rfl, rfl⟩, fun s hp _ => by rw [exec, execDecodeMode, onAccept_idle hp, State.done_eq]⟩

/-- GET_STATE answers OK in every IDLE state that meets the invariant (40_register_map.md R78). -/
theorem exec_getState_answers {s : State} (h : Inv s) (hp : s.ph = .idle) :
    ∃ d, exec .getState s = .next (s.answered (okResponse d)) := by
  match hs : s.sess with
  | .closed => exact ⟨_, exec_getState_closed (quiet_of_inv h hp) hs⟩
  | .opened =>
    obtain ⟨hbus, haddr, -⟩ := h.opened hs
    obtain ⟨bus, hbus⟩ := Option.ne_none_iff_exists'.mp hbus
    obtain ⟨addr, haddr⟩ := Option.ne_none_iff_exists'.mp haddr
    exact ⟨_, exec_getState_opened (quiet_of_inv h hp) hs haddr hbus⟩

/-- Settles O23: GET_STATE by the invariant, every other command by its answer. -/
theorem registerMapCommandsOnlyAnswer : Obligations.RegisterMapCommandsOnlyAnswer := by
  intro i s hi hinv hp
  by_cases hget : i = .getState
  · subst hget
    obtain ⟨d, hd⟩ := exec_getState_answers hinv hp
    exact ⟨_, hd, fun _ => rfl, nofun⟩
  · obtain ⟨e, d, hlegal, hexec⟩ := exec_rmu_answers s.params hi hget
    refine ⟨_, (hexec s hp rfl).trans (congrArg _ (respond_quiet (quiet_of_inv hinv hp) e .noStep d)), ?_⟩
    obtain ⟨hwf, rfl⟩ | ⟨hwf, rfl, rfl⟩ := hlegal <;> simp [hwf, errorResponse]

/-- Settles O24: the same answer is written in both states. -/
theorem registerMapIgnoresTheSession : Obligations.RegisterMapIgnoresTheSession := by
  intro i s s' t hi hget h h' hparams hexec
  obtain ⟨e, d, -, hall⟩ := exec_rmu_answers s.params hi hget
  cases (hall s h.1 rfl).symm.trans hexec
  exact ⟨_, hall s' h'.1 hparams.symm, rfl⟩

/-- Settles O26: the registers' addresses are their positions. -/
theorem registerMapIsNumberedInOrder : Obligations.RegisterMapIsNumberedInOrder := by
  refine ⟨rfl, fun r => ?_, fun name r h => ?_, fun name => regOfCode_eq_none_iff⟩
  · cases r <;> decide
  · rw [addr_of_regOfCode h, BitVec.toNat_setWidth, Nat.mod_eq_of_lt (Nat.lt_trans name.isLt (by decide))]

/-! ### Layouts -/

/-- Settles O27: each field is extracted from where it was placed. -/
theorem responseWordFields : Obligations.ResponseWordFields := by
  intro r
  simp (disch := omega) [Response.word, extract_or, extract_place_same, extract_place_below, extract_place_above]

/-- Settles O28: by the tables of codes and of transactions. -/
theorem codesAndStepTransactions : Obligations.CodesAndStepTransactions :=
  ⟨rfl, rfl, rfl, ⟨rfl, rfl⟩, fun _ _ _ => ⟨rfl, rfl, rfl, rfl, rfl, rfl, rfl, rfl, rfl, rfl⟩, fun _ => ⟨rfl, rfl⟩,
    fun _ _ => ⟨rfl, rfl⟩, fun _ => rfl⟩

/-- A lane is its bytes, the most significant first (42_sample_close.md R96). -/
theorem lane_eq_append (msb lsb : Byte) : lane msb lsb = msb ++ lsb := by
  refine BitVec.eq_of_getLsbD_eq fun i hi => ?_
  rw [lane, BitVec.getLsbD_or, getLsbD_place, getLsbD_place, BitVec.getLsbD_append]
  obtain hlow | hhigh := Nat.lt_or_ge i 8
  · simp [hi, hlow, -BitVec.getLsbD_eq_getElem]
  · simp [hi, hhigh, show ¬ i < 8 by omega, -BitVec.getLsbD_eq_getElem]

/-- The bytes of a lane (42_sample_close.md R96). -/
theorem extract_lane (msb lsb : Byte) : (lane msb lsb).extractLsb' 8 8 = msb ∧ (lane msb lsb).extractLsb' 0 8 = lsb := by
  simp (disch := omega) [lane, extract_or, extract_place_same, extract_place_below, extract_place_above]

/-- Settles O39: a lane is its bytes in order, so they can be read back, and every value is the lane of its bytes. -/
theorem reassemblyIsMostSignificantFirst : Obligations.ReassemblyIsMostSignificantFirst := by
  refine ⟨fun msb lsb => ?value, fun msb lsb msb' lsb' h => ?injective,
    fun v => ⟨v.extractLsb' 8 8, v.extractLsb' 0 8, place_split v 8 (by decide)⟩, fun v => ?signed, fun _ => rfl,
    fun _ => ⟨rfl, rfl, rfl⟩⟩
  case value =>
    rw [lane_eq_append, BitVec.toNat_append, ← Nat.shiftLeft_add_eq_or_of_lt lsb.isLt, Nat.shiftLeft_eq, Nat.mul_comm]
  case injective =>
    obtain ⟨⟨hmsb, hlsb⟩, ⟨hmsb', hlsb'⟩⟩ := And.intro (extract_lane msb lsb) (extract_lane msb' lsb')
    rw [h] at hmsb hlsb
    exact ⟨hmsb.symm.trans hmsb', hlsb.symm.trans hlsb'⟩
  case signed =>
    rw [int16, BitVec.toInt_eq_toNat_cond]
    split <;> split <;> omega

/-- Settles O44: the bytes of a lane are the wire pair. -/
theorem hostStorageByByteOrder : Obligations.HostStorageByByteOrder := by
  refine fun a v => ⟨rfl, rfl, fun msb lsb => ?_⟩
  obtain ⟨hmsb, hlsb⟩ := extract_lane msb lsb
  simp only [storeSample, hostBytes, hmsb, hlsb]

end Sys2Proof.Machine
end

section
/-! `CACHED_MODE` steers no step (41_session_mode.md R94): each part of a step, run from a state with another `CACHED_MODE`, does
the same and agrees in everything else. -/

namespace Sys2Proof.Machine

/-- The second outcome is a next state whenever the first is, and the two agree in everything but `CACHED_MODE`. -/
def AgreeButMode (o o' : Out) : Prop := ∀ t, o = .next t → ∃ m, o' = .next (t.setCachedMode m)

/-- Two next states that agree. -/
theorem agreeButMode_next {t t' : State} (m : Mode) (h : t' = t.setCachedMode m) : AgreeButMode (.next t) (.next t') := by
  intro u hu
  cases hu
  exact ⟨m, congrArg _ h⟩

/-- An outcome that is no next state asks for nothing. -/
theorem agreeButMode_fault (e : Fault) (o : Out) : AgreeButMode (.fault e) o := fun _ => nofun

/-- An answer step reads no `CACHED_MODE` itself. -/
theorem agreeButMode_onAnswer {s : State} {k : StepId} {f : Answer → State → Out} (m : Mode)
    (h : ∀ a u, AgreeButMode (f a u) (f a (u.setCachedMode m))) :
    AgreeButMode (s.onAnswer k f) ((s.setCachedMode m).onAnswer k f) := by
  intro t ht
  obtain ⟨tx, a, rest, hb, hi, ha, hf⟩ := onAnswer_next ht
  rw [onAnswer_answer (s := s.setCachedMode m) hb hi ha]
  exact h a (s.takeAnswer tx a) t hf

/-- An outcome agrees with itself. -/
theorem agreeButMode_refl (o : Out) : AgreeButMode o o := fun t ht => ⟨t.cachedMode, ht⟩

/-- A mode byte taken overwrites `CACHED_MODE`. -/
theorem testModeByte_setCachedMode (a : Answer) (s : State) (m : Mode) (f : Mode → Byte → State → Out) :
    (s.setCachedMode m).testModeByte a f = s.testModeByte a f := by
  unfold State.testModeByte
  split <;> rfl

/-! ### Answers -/

/-- OPEN goes on without reading `CACHED_MODE`: Configure decides on `M0` (41_session_mode.md R88). -/
theorem agreeButMode_openOk (addr : SlaveAddr) (k : StepId) (a : Answer) (s : State) (m : Mode) :
    AgreeButMode (openOk addr k a s) (openOk addr k a (s.setCachedMode m)) := by
  cases k
  case modeRead =>
    simp only [openOk, testModeByte_setCachedMode]
    exact agreeButMode_refl _
  case confirmRead =>
    simp only [openOk, testModeByte_setCachedMode]
    exact agreeButMode_refl _
  case noStep | confirmMode | sampleAddrWrite | sampleRead | release => exact agreeButMode_fault _ _
  all_goals exact agreeButMode_next m rfl

/-- A failure of OPEN keeps `CACHED_MODE` until the session is cleared. -/
theorem agreeButMode_failOpen (e : Status) (k : StepId) (s : State) (m : Mode) :
    AgreeButMode (.next (s.failOpen e k)) (.next ((s.setCachedMode m).failOpen e k)) := by
  by_cases hk : k = .acquire
  · subst hk
    exact agreeButMode_next .noBelief rfl
  · rw [failOpen_of_ne_acquire hk, failOpen_of_ne_acquire hk]
    exact agreeButMode_next m rfl

/-- A cleanup ends with `CACHED_MODE` cleared. -/
theorem agreeButMode_endCleanup (s : State) (m : Mode) : AgreeButMode s.endCleanup (s.setCachedMode m).endCleanup := by
  intro t ht
  obtain ⟨e, he, rfl⟩ := endCleanup_next ht
  exact ⟨.noBelief, endCleanup_some (s := s.setCachedMode m) he⟩

/-- TEST_MODE goes on without reading `CACHED_MODE`. -/
theorem agreeButMode_testModeOk (k : StepId) (a : Answer) (s : State) (m : Mode) :
    AgreeButMode (testModeOk k a s) (testModeOk k a (s.setCachedMode m)) := by
  cases k
  case modeAddrWrite => exact agreeButMode_next m rfl
  case modeRead =>
    simp only [testModeOk, testModeByte_setCachedMode]
    exact agreeButMode_refl _
  all_goals exact agreeButMode_fault _ _

/-- READ_SAMPLE goes on without reading `CACHED_MODE`. -/
theorem agreeButMode_readSampleOk (k : StepId) (a : Answer) (s : State) (m : Mode) :
    AgreeButMode (readSampleOk k a s) (readSampleOk k a (s.setCachedMode m)) := by
  unfold readSampleOk
  split
  · exact agreeButMode_next m rfl
  · exact agreeButMode_next m rfl
  · exact agreeButMode_fault _ _
  · exact agreeButMode_fault _ _

/-- The end of CLOSE clears `CACHED_MODE`. -/
theorem agreeButMode_closeAnswered (a : Answer) (s : State) (m : Mode) :
    AgreeButMode (.next (s.closeAnswered a)) (.next ((s.setCachedMode m).closeAnswered a)) := by
  refine agreeButMode_next .noBelief ?_
  unfold State.closeAnswered
  split <;> rfl

/-! ### Commands -/

/-- A Register Map command but GET_STATE reads no `CACHED_MODE`. -/
theorem agreeButMode_exec_rmu {i : Instr} (hi : isRmu i = true) (hne : i ≠ .getState) (s : State) (m : Mode) :
    AgreeButMode (exec i s) (exec i (s.setCachedMode m)) := by
  intro t ht
  have hp : s.ph = .idle := (exec_rmu_next hi ht).1
  obtain ⟨e, d, -, hall⟩ := exec_rmu_answers s.params hi hne
  cases (hall s hp rfl).symm.trans ht
  exact ⟨m, hall (s.setCachedMode m) hp rfl⟩

/-- Nor does OPEN. -/
theorem agreeButMode_execOpen (bus : BusId) (addr : SlaveAddr) (s : State) (m : Mode) :
    AgreeButMode (execOpen bus addr s) (execOpen bus addr (s.setCachedMode m)) := by
  unfold execOpen
  rw [State.setCachedMode_ph, State.setCachedMode_sess]
  split
  · split <;> exact agreeButMode_next m rfl
  · exact agreeButMode_onAnswer m fun _ u => agreeButMode_endCleanup u m
  · refine agreeButMode_onAnswer m fun a u => ?_
    split
    · exact agreeButMode_failOpen _ _ u m
    · exact agreeButMode_openOk addr _ a u m

/-- Nor does TEST_MODE. -/
theorem agreeButMode_execTestMode (s : State) (m : Mode) :
    AgreeButMode (execTestMode s) (execTestMode (s.setCachedMode m)) := by
  unfold execTestMode
  rw [State.setCachedMode_ph, State.setCachedMode_sess]
  split
  · split <;> exact agreeButMode_next m rfl
  · refine agreeButMode_onAnswer m fun a u => ?_
    split
    · exact agreeButMode_next m rfl
    · exact agreeButMode_testModeOk _ a u m

/-- Nor does READ_SAMPLE. -/
theorem agreeButMode_execReadSample (dv : BitVec 3) (s : State) (m : Mode) :
    AgreeButMode (execReadSample dv s) (execReadSample dv (s.setCachedMode m)) := by
  unfold execReadSample
  rw [State.setCachedMode_ph, State.setCachedMode_sess]
  split
  · split
    · split <;> exact agreeButMode_next m rfl
    · exact agreeButMode_next m rfl
  · refine agreeButMode_onAnswer m fun a u => ?_
    split
    · exact agreeButMode_next m rfl
    · exact agreeButMode_readSampleOk _ a u m

/-- Nor does CLOSE. -/
theorem agreeButMode_execClose (s : State) (m : Mode) :
    AgreeButMode (execClose s) (execClose (s.setCachedMode m)) := by
  unfold execClose
  rw [State.setCachedMode_ph, State.setCachedMode_sess]
  split
  · split <;> exact agreeButMode_next m rfl
  · exact agreeButMode_onAnswer m fun a u => agreeButMode_closeAnswered a u m
  · exact agreeButMode_fault _ _

/-- No command but an accepted GET_STATE reads `CACHED_MODE`. -/
theorem agreeButMode_exec {i : Instr} {s : State} (m : Mode) (h : i = .getState → s.ph ≠ .idle) :
    AgreeButMode (exec i s) (exec i (s.setCachedMode m)) := by
  cases i
  case getState => exact fun t ht => absurd (exec_rmu_next rfl ht).1 (h rfl)
  case openSession bus addr => exact agreeButMode_execOpen bus addr s m
  case testMode => exact agreeButMode_execTestMode s m
  case readSample dv => exact agreeButMode_execReadSample dv s m
  case closeSession => exact agreeButMode_execClose s m
  all_goals exact agreeButMode_exec_rmu rfl (by simp) s m

/-! ### Steps -/

/-- An input without effect reads no `CACHED_MODE`. -/
theorem step_setCachedMode_of_dropInput {s : State} {rest : List Input} (m : Mode)
    (h : (∃ a, s.inputs = .lateAnswer a :: rest) ∨ (∃ k w, s.ph = .busy k ∧ s.inputs = .command w :: rest) ∨
      ∃ a, s.ph = .idle ∧ s.inputs = .answer a :: rest) :
    step (s.setCachedMode m) = .next (s.dropInput.setCachedMode m) := by
  obtain ⟨a, hi⟩ | ⟨k, w, hp, hi⟩ | ⟨a, hp, hi⟩ := h
  · exact step_lateAnswer (s := s.setCachedMode m) hi
  · exact step_command_busy (s := s.setCachedMode m) hi hp
  · exact step_answer_idle (s := s.setCachedMode m) hi hp

/-- A step that is no acceptance of GET_STATE reads no `CACHED_MODE`. -/
theorem agreeButMode_step {s : State} (m : Mode) (h : ¬ (s.ph = .idle ∧ ∃ rest, s.inputs = .command 0x7000 :: rest)) :
    AgreeButMode (step s) (step (s.setCachedMode m)) := by
  intro t ht
  obtain ⟨rfl, rest, hi⟩ | ⟨rfl, rest, hi⟩ | ⟨w, rest, hp, hi, haccept⟩ | ⟨k, a, rest, w, i, hp, hi, hc, hd, hexec⟩ :=
    step_next ht
  · exact ⟨.noBelief, step_reset (s := s.setCachedMode m) hi⟩
  · exact ⟨m, step_setCachedMode_of_dropInput m hi⟩
  · rw [step_command (s := s.setCachedMode m) hi hp]
    unfold acceptWord at haccept ⊢
    split at haccept
    · rename_i i hd
      refine agreeButMode_exec m (fun hget => ?_) t haccept
      exact absurd ⟨hp, rest, decode_eq_getState_iff.mp (hget ▸ hd) ▸ hi⟩ h
    · exact agreeButMode_next m rfl t haccept
  · rw [step_answer (s := s.setCachedMode m) hi hp]
    simp only [answerStep, State.setCachedMode_cur, hc, hd]
    exact agreeButMode_exec m (fun _ => by simp [hp]) t hexec

/-- Settles O56: a step agrees with the step of the state with another `CACHED_MODE`. -/
theorem cachedModeSteersNothing : Obligations.CachedModeSteersNothing := by
  intro s t m hstep hget
  obtain ⟨m', ht'⟩ := agreeButMode_step m hget t hstep
  exact ⟨_, ht', rfl⟩

end Sys2Proof.Machine
end

section
/-! What a step can do, whatever the state it starts from (41_session_mode.md R80, 10_state.md, 20_memory.md R31, R44): the inputs
and their effects, what an accepting step and an answer step leave unchanged, and what they issue and answer. -/

namespace Sys2Proof.Machine

/-! ### Inputs -/

/-- Settles O8: by the kind of the next input. -/
theorem stepRunsTheDecodedCommand : Obligations.StepRunsTheDecodedCommand := by
  refine ⟨fun s w rest i hp hi hd => ?accepted, fun s k a rest w i hp hi hc hd => ?answered⟩
  case accepted => simp only [step_command hi hp, accept_eq hi, acceptWord, hd]
  case answered => simp only [step_answer hi hp, answerStep, hc, hd]

/-- Settles O9: the accepted state is quiet, so the response alone is written. -/
theorem illegalWordIsOnlyAnswered : Obligations.IllegalWordIsOnlyAnswered := by
  intro s w rest e h hi hd
  simp only [step_command hi h.1, accept_eq hi, acceptWord, hd]
  exact congrArg _ (raise_quiet (s := s.accepted w rest) h .illegalCommand .noStep)

/-- Settles O10: each input is dropped. -/
theorem inputsWithoutEffect : Obligations.InputsWithoutEffect := by
  refine ⟨fun s w rest k hp hi => ?word, fun s a rest hi => ?late, fun s a rest hp hi => ?idle⟩
  case word => rw [step_command_busy hi hp, dropInput_eq hi]
  case late => rw [step_lateAnswer hi, dropInput_eq hi]
  case idle => rw [step_answer_idle hi hp, dropInput_eq hi]

/-- Settles O11: the block holds in both phases. -/
theorem noStepWithoutAnInput : Obligations.NoStepWithoutAnInput := by
  refine ⟨fun s hi hp => ?idle, fun s k hi hp => ?busy⟩
  case idle => rw [step_nil hi, hp, hold]
  case busy => rw [step_nil hi, hp, hold]

/-- Settles O12: by the definition of the state after reset. -/
theorem resetValues : Obligations.ResetValues :=
  ⟨rfl, rfl, rfl, rfl, rfl, rfl, rfl, rfl, rfl, rfl, rfl⟩

/-- Settles O13: by the definition of a block reset. -/
theorem resetClearsTheBlock : Obligations.ResetClearsTheBlock := by
  intro s rest hi
  rw [step_reset hi, State.resetBlock, hi]
  rfl

/-! ### Frames -/

/-- Acceptance writes no parameters. -/
theorem AcceptCase.params_eq {i : Instr} {s t : State} (h : AcceptCase i s t) : t.params = s.params := by
  cases h <;> rfl

/-- An answer step writes no parameters. -/
theorem AnswerCase.params_eq {i : Instr} {k : StepId} {a : Answer} {s t : State} (h : AnswerCase i k a s t) :
    t.params = s.params := by
  cases h <;> rfl

/-- Acceptance answers no transaction. -/
theorem AcceptCase.transcript_eq {i : Instr} {s t : State} (h : AcceptCase i s t) : t.transcript = s.transcript := by
  cases h <;> rfl

/-- An answer step answers no other transaction. -/
theorem AnswerCase.transcript_eq {i : Instr} {k : StepId} {a : Answer} {s t : State} (h : AnswerCase i k a s t) :
    t.transcript = s.transcript := by
  cases h <;> rfl

/-- Acceptance does not write `WB` again. -/
theorem AcceptCase.wb_eq {i : Instr} {s t : State} (h : AcceptCase i s t) : t.wb = s.wb := by
  cases h <;> rfl

/-- Settles O53: by the kinds of steps. -/
theorem parametersAreNeverWritten : Obligations.ParametersAreNeverWritten := by
  intro s t h
  obtain ⟨rfl, -⟩ | ⟨rfl, -⟩ | ⟨w, -, -, -, ⟨_, -, rfl⟩ | ⟨i, -, hcase⟩⟩ | ⟨k, tx, a, -, w, i, -, -, -, -, -, -, hcase⟩ :=
    step_cases h
  · rfl
  · rfl
  · rfl
  · exact hcase.params_eq
  · exact hcase.params_eq

/-- Settles O51: an answer step takes the one pair, and no other step answers a transaction. -/
theorem transcriptGrowsByTheAnsweredPair : Obligations.TranscriptGrowsByTheAnsweredPair := by
  intro s t h
  obtain ⟨rfl, -⟩ | ⟨rfl, -⟩ | ⟨w, -, -, -, ⟨_, -, rfl⟩ | ⟨i, -, hcase⟩⟩ |
    ⟨k, tx, a, rest, w, i, hp, hb, hi, ha, -, -, hcase⟩ := step_cases h
  · exact .inl rfl
  · exact .inl rfl
  · exact .inl rfl
  · exact .inl hcase.transcript_eq
  · exact .inr ⟨k, tx, a, rest, hp, hb, hi, ha, hcase.transcript_eq⟩

/-! ### Responses -/

/-- One response was given, which `RSP` holds, and the block is IDLE (10_state.md R26). -/
def GaveResponse (s t : State) : Prop :=
  ∃ r, t.rsp = some r ∧ t.rspValid = true ∧ t.ph = .idle ∧ t.bus = none ∧ t.responses = s.responses ++ [r]

/-- No response was given. -/
def GaveNoResponse (s t : State) : Prop := t.responses = s.responses ∧ t.rsp = s.rsp

/-- Acceptance gives one response or none. -/
theorem AcceptCase.responses {i : Instr} {s t : State} (h : AcceptCase i s t) :
    GaveNoResponse s t ∨ GaveResponse s t := by
  cases h with
  | respond => exact .inr ⟨_, rfl, rfl, rfl, rfl, rfl⟩
  | _ => exact .inl ⟨rfl, rfl⟩

/-- An answer step gives one response or none. -/
theorem AnswerCase.responses {i : Instr} {k : StepId} {a : Answer} {s t : State} (h : AnswerCase i k a s t) :
    GaveNoResponse s t ∨ GaveResponse s t := by
  cases h with
  | cleaned | acquireFailed | committed | failed | testDone | sampleDone | closeFailed | closed =>
    exact .inr ⟨_, rfl, rfl, rfl, rfl, rfl⟩
  | _ => exact .inl ⟨rfl, rfl⟩

/-- Settles O52: by the kinds of steps. -/
theorem responsesGrowByTheOneGiven : Obligations.ResponsesGrowByTheOneGiven := by
  intro s t h
  obtain ⟨rfl, hreset⟩ | ⟨rfl, -⟩ | ⟨w, -, -, -, ⟨_, -, rfl⟩ | ⟨i, -, hcase⟩⟩ |
    ⟨k, tx, a, rest, w, i, hp, hb, hi, ha, -, -, hcase⟩ := step_cases h
  · exact .inl ⟨rfl, .inr hreset⟩
  · exact .inl ⟨rfl, .inl rfl⟩
  · exact .inr ⟨_, rfl, rfl, rfl, rfl, rfl⟩
  · exact hcase.responses.imp (fun hno => ⟨hno.1, .inl hno.2⟩) id
  · exact hcase.responses.imp (fun hno => ⟨hno.1, .inl hno.2⟩) id

/-! ### Issued addresses -/

/-- The first byte of a write issued as an address or a register write. -/
theorem issuedAddress_of_write {p : Params} {a b : Byte} {bs bytes : List Byte} (hb : issuedAddress p b = true)
    (h : some (Transaction.write (b :: bs)) = some (.write (a :: bytes))) : issuedAddress p a = true := by
  cases h
  exact hb

/-- The register of TestMode is one of the addresses issued (20_memory.md R31). -/
theorem issuedAddress_modeReg (p : Params) : issuedAddress p (modeRegAddr p.modeReg) = true := by
  simp [issuedAddress]

/-- The writes that an accepting step issues. -/
theorem AcceptCase.issuedAddress {i : Instr} {s t : State} {a : Byte} {bytes : List Byte} (h : AcceptCase i s t)
    (ht : t.bus = some (.write (a :: bytes))) : issuedAddress s.params a = true := by
  cases h with
  | respond | openSession | closeSession => cases ht
  | testMode => exact issuedAddress_of_write (issuedAddress_modeReg _) ht
  | readSample => exact issuedAddress_of_write rfl ht

/-- The writes that an answer step issues. -/
theorem AnswerCase.issuedAddress {i : Instr} {k : StepId} {x : Answer} {s t : State} {a : Byte} {bytes : List Byte}
    (h : AnswerCase i k x s t) (ht : t.bus = some (.write (a :: bytes))) : issuedAddress s.params a = true := by
  cases h with
  | bound | activated => exact issuedAddress_of_write (issuedAddress_modeReg _) ht
  | modeStandby | modeOther | standbyForced | cr2Set => exact issuedAddress_of_write rfl ht
  | _ => cases ht

/-- Settles O50: by the transactions of each step. -/
theorem issuedAddressesAreFour : Obligations.IssuedAddressesAreFour := by
  intro s t a bytes h ht hnew
  obtain ⟨rfl, -⟩ | ⟨rfl, -⟩ | ⟨w, -, -, -, ⟨_, -, rfl⟩ | ⟨i, -, hcase⟩⟩ | ⟨k, tx, x, -, w, i, -, -, -, -, -, -, hcase⟩ :=
    step_cases h
  · cases ht
  · exact absurd rfl hnew
  · cases ht
  · exact hcase.issuedAddress ht
  · exact hcase.issuedAddress ht

end Sys2Proof.Machine
end

section
/-! What a command leaves of the session (60_exceptions.md R113, R120): the steps of READ_SAMPLE, errors by command, and the
steps that open and close the session. -/

namespace Sys2Proof.Machine

/-! ### READ_SAMPLE -/

/-- Settles O41: by the steps of READ_SAMPLE. -/
theorem readSampleKeepsTheSession : Obligations.ReadSampleKeepsTheSession := by
  intro s t dv h
  match hp : s.ph with
  | .idle =>
    cases exec_idle_next hp h <;> exact ⟨rfl, rfl, rfl, rfl, rfl, rfl, rfl⟩
  | .busy k =>
    obtain ⟨tx, a, rest, -, -, -, hcase⟩ := exec_busy_next hp h
    cases hcase <;> exact ⟨rfl, rfl, rfl, rfl, rfl, rfl, rfl⟩

/-- A response that is no OK carries no sample (42_sample_close.md R97). -/
theorem sample_eq_none {r : Response} (h : r.status ≠ .ok) : r.sample = none := if_neg h

/-- An error of READ_SAMPLE has DATA 0, writes no burst and leaves the block IDLE (42_sample_close.md R97). -/
theorem exec_readSample_error {s t : State} {dv : BitVec 3} {r : Response} (hv : s.rspValid = false)
    (h : exec (.readSample dv) s = .next t) (ht : t.rspValid = true) (hr : t.rsp = some r) (he : r.status ≠ .ok) :
    r.data = 0 ∧ t.wb = s.wb ∧ t.ph = .idle := by
  match hp : s.ph with
  | .idle =>
    cases exec_idle_next hp h with
    | respond _ _ e d hdata =>
      cases hr
      exact ⟨(hdata.resolve_left fun hok => he hok.1).2, rfl, rfl⟩
    | readSample => exact nomatch ht.symm.trans hv
  | .busy k =>
    obtain ⟨tx, a, rest, -, -, -, hcase⟩ := exec_busy_next hp h
    cases hcase with
    | failed =>
      cases hr
      exact ⟨rfl, rfl, rfl⟩
    | sampleAddressed => exact nomatch ht.symm.trans hv
    | sampleDone =>
      cases hr
      exact absurd rfl he

/-- An accepting step clears `WB` (41_session_mode.md R80). -/
theorem wb_of_step_command {s t : State} {w : Word} {rest : List Input} (hp : s.ph = .idle)
    (hi : s.inputs = .command w :: rest) (h : step s = .next t) : t.wb = none := by
  rw [step_command hi hp, acceptWord] at h
  split at h
  · exact (exec_idle_next (s := s.accept w) hp h).wb_eq
  · cases h
    rfl

/-- Settles O40: the session by READ_SAMPLE's frame, the rest by its steps. -/
theorem readSampleIsAllOrNothing : Obligations.ReadSampleIsAllOrNothing := by
  refine ⟨fun s t dv r hv h ht hr he => ?_, fun s t w rest hp hi h => wb_of_step_command hp hi h⟩
  obtain ⟨hdata, hwb, hidle⟩ := exec_readSample_error hv h ht hr he
  obtain ⟨hsess, hbus, haddr, hmode, -⟩ := readSampleKeepsTheSession s t dv h
  exact ⟨hdata, sample_eq_none he, hsess, hbus, haddr, hmode, hwb, hidle⟩

/-! ### Errors -/

/-- The session, the binding and the belief are as they were. -/
def SessionKept (s t : State) : Prop :=
  t.sess = s.sess ∧ t.busId = s.busId ∧ t.devAddr = s.devAddr ∧ t.cachedMode = s.cachedMode

/-- The session is CLOSED, with no binding and no belief. -/
def SessionCleared (t : State) : Prop :=
  t.sess = .closed ∧ t.busId = none ∧ t.devAddr = none ∧ t.cachedMode = .noBelief

/-- What an error of an accepting step is, and that it keeps the session (60_exceptions.md R113, R114). -/
theorem AcceptCase.error {i : Instr} {s t : State} {r : Response} (h : AcceptCase i s t) (hv : s.rspValid = false)
    (ht : t.rspValid = true) (hr : t.rsp = some r) (he : r.status ≠ .ok) :
    r.data = 0 ∧ SessionKept s t ∧ r.status ≠ .ioError ∧ r.status ≠ .configError := by
  cases h with
  | respond _ _ e d hdata hstatus =>
    cases hr
    refine ⟨(hdata.resolve_left fun hok => he hok.1).2, ⟨rfl, rfl, rfl, rfl⟩, ?_⟩
    obtain rfl | rfl | ⟨rfl, -⟩ | ⟨rfl, -⟩ := hstatus <;> exact ⟨nofun, nofun⟩
  | _ => exact nomatch ht.symm.trans hv

/-- What an error of an answer step leaves of the session: TEST_MODE and READ_SAMPLE keep it, OPEN and CLOSE clear it
(60_exceptions.md R113). -/
theorem AnswerCase.error {i : Instr} {k : StepId} {a : Answer} {s t : State} {r : Response} (h : AnswerCase i k a s t)
    (hv : s.rspValid = false) (ht : t.rspValid = true) (hr : t.rsp = some r) (he : r.status ≠ .ok) :
    r.data = 0 ∧
      (isOpen i = false ∧ i ≠ .closeSession ∧ SessionKept s t ∨
        (isOpen i = true ∧ s.pendErr ≠ none ∨ r.status = .ioError) ∧ (isOpen i = true ∨ i = .closeSession) ∧
          SessionCleared t) := by
  cases h with
  | cleaned _ _ _ _ e hpend =>
    cases hr
    exact ⟨rfl, .inr ⟨.inl ⟨rfl, by simp [hpend]⟩, .inl rfl, rfl, rfl, rfl, rfl⟩⟩
  | acquireFailed =>
    cases hr
    exact ⟨rfl, .inr ⟨.inr rfl, .inl rfl, rfl, rfl, rfl, rfl⟩⟩
  | closeFailed =>
    cases hr
    exact ⟨rfl, .inr ⟨.inr rfl, .inr rfl, rfl, rfl, rfl, rfl⟩⟩
  | failed _ _ _ hi =>
    cases hr
    refine ⟨rfl, .inl ?_⟩
    obtain rfl | ⟨dv, rfl⟩ := hi <;> exact ⟨rfl, by simp, rfl, rfl, rfl, rfl⟩
  | committed | testDone | sampleDone | closed =>
    cases hr
    exact absurd rfl he
  | _ => exact nomatch ht.symm.trans hv

/-- Settles O55: an accepting step's error keeps the session; an answer step's error keeps it or clears it, by the command. -/
theorem errorsWriteWhatTheirCommandAllows : Obligations.ErrorsWriteWhatTheirCommandAllows := by
  intro i s t r hv h ht hr he
  match hp : s.ph with
  | .idle =>
    obtain ⟨hdata, hkept, hio, hconfig⟩ := (exec_idle_next hp h).error hv ht hr he
    exact ⟨hdata, fun _ _ => hkept, fun _ hs => absurd hs (not_or.mpr ⟨hio, hconfig⟩)⟩
  | .busy k =>
    obtain ⟨tx, a, rest, -, -, -, hcase⟩ := exec_busy_next hp h
    obtain ⟨hdata, ⟨hopen, hclose, hkept⟩ | ⟨hstatus, hi, hcleared⟩⟩ := hcase.error hv ht hr he
    · exact ⟨hdata, fun _ _ => hkept, fun hi => by simp [hopen, hclose] at hi⟩
    · refine ⟨hdata, fun hcond hpend => ?_, fun _ _ => hcleared⟩
      have hio : r.status = .ioError := hstatus.resolve_left fun hc => hc.2 hpend
      obtain ⟨ho, hc⟩ | hs | hs := hcond
      · simp [ho, hc] at hi
      · exact nomatch hs.symm.trans hio
      · exact nomatch hs.symm.trans hio

/-! ### Opening and closing -/

/-- A change of session in an answer step: OPEN's commit opens it, CLOSE's answered release closes it, and OPEN's error leaves
it CLOSED (60_exceptions.md R120). -/
inductive SessionChange (i : Instr) (k : StepId) (s t : State) : Prop
  | kept (h : t.sess = s.sess)
  | opened (hk : k = .confirmRead) (hi : isOpen i = true) (hactive : t.cachedMode.isActive = true)
      (hrsp : t.rsp = some (okResponse (t.cachedMode.code.setWidth 48))) (hbus : t.busId = s.busId)
      (haddr : t.devAddr = s.devAddr) (hsess : t.sess = .opened)
  | closed (hk : k = .release) (hi : i = .closeSession) (hsess : t.sess = .closed)
  | failed (hi : isOpen i = true) (hsess : t.sess = .closed)

/-- What an answer step makes of the session. -/
theorem AnswerCase.sessionChange {i : Instr} {k : StepId} {a : Answer} {s t : State} (h : AnswerCase i k a s t) :
    SessionChange i k s t := by
  cases h with
  | committed _ _ b _ hm => exact .opened rfl rfl hm (congrArg _ (congrArg _ (place_at_zero 48 _))) rfl rfl rfl
  | closeFailed | closed => exact .closed rfl rfl rfl
  | cleaned | acquireFailed => exact .failed rfl rfl
  | _ => exact .kept rfl

/-- An accepting step keeps the session. -/
theorem AcceptCase.sess_eq {i : Instr} {s t : State} (h : AcceptCase i s t) : t.sess = s.sess := by
  cases h <;> rfl

/-- OPEN runs in a CLOSED session, every other session command in an OPEN one (60_exceptions.md R120). -/
theorem BusyWith.closed_of_isOpen {s : State} {k : StepId} {i : Instr} (h : BusyWith s k i) (hi : isOpen i = true) :
    s.sess ≠ .opened :=
  fun hs => nomatch hi.symm.trans (h.session.mp hs)

/-- A session that is as it was neither opened nor closed. -/
theorem unchanged_session {s t : State} {P Q : Prop} (h : t.sess = s.sess) :
    (s.sess = .closed → t.sess = .opened → P) ∧ (s.sess = .opened → t.sess = .closed → Q) := by
  rw [h]
  exact ⟨fun hs ht => (nomatch hs.symm.trans ht), fun hs ht => (nomatch hs.symm.trans ht)⟩

/-- What a change of session by an answer step says, from a state that meets the invariant. -/
theorem SessionChange.of_busyWith {s t : State} {k : StepId} {i : Instr} {tx : Transaction} {a : Answer}
    (hbusy : BusyWith s k i) (h : SessionChange i k (s.takeAnswer tx a) t) :
    (s.sess = .closed → t.sess = .opened →
      k = .confirmRead ∧ t.cachedMode.isActive = true ∧ t.rsp = some (okResponse (t.cachedMode.code.setWidth 48)) ∧
        ∃ bus addr, s.cur = some (encode (.openSession bus addr)) ∧ t.busId = some bus ∧ t.devAddr = some addr) ∧
      (s.sess = .opened → t.sess = .closed → k = .release ∧ s.cur = some (encode .closeSession)) := by
  cases h with
  | kept h => exact unchanged_session h
  | opened hk hi hactive hrsp hbus haddr hsess =>
    refine ⟨fun _ _ => ⟨hk, hactive, hrsp, ?_⟩, fun hs => absurd hs (hbusy.closed_of_isOpen hi)⟩
    cases i <;> cases hi
    rename_i bus addr
    obtain ⟨hbus', haddr'⟩ := hbusy.binding bus addr rfl
    exact ⟨bus, addr, hbusy.cur, hbus.trans hbus', haddr.trans (haddr' (by simp [hk]))⟩
  | closed hk hi hsess => exact ⟨fun _ ht => (nomatch hsess.symm.trans ht), fun _ _ => ⟨hk, hi ▸ hbusy.cur⟩⟩
  | failed hi hsess =>
    exact ⟨fun _ ht => (nomatch hsess.symm.trans ht), fun hs => absurd hs (hbusy.closed_of_isOpen hi)⟩

/-- Settles O54: a reset closes the session, an answer step changes it as its command does, and no other step changes it. -/
theorem sessionChangesOnlyByOpenAndClose : Obligations.SessionChangesOnlyByOpenAndClose := by
  intro s t hinv h
  obtain ⟨rfl, hreset⟩ | ⟨rfl, -⟩ | ⟨w, -, -, -, ⟨_, -, rfl⟩ | ⟨i, -, hcase⟩⟩ |
    ⟨k, tx, a, -, w, i, hp, -, -, -, hc, hd, hcase⟩ := step_cases h
  · exact ⟨fun _ => nofun, fun _ _ => .inl hreset⟩
  · exact unchanged_session rfl
  · exact unchanged_session rfl
  · exact unchanged_session hcase.sess_eq
  · obtain ⟨hopened, hclosed⟩ := hcase.sessionChange.of_busyWith (hinv.busyWith hp hc hd)
    refine ⟨fun hs ht => ?_, fun hs ht => .inr ?_⟩
    · obtain ⟨hk, hrest⟩ := hopened hs ht
      exact ⟨hk ▸ hp, hrest⟩
    · obtain ⟨hk, hcur⟩ := hclosed hs ht
      exact ⟨hk ▸ hp, hcur⟩

end Sys2Proof.Machine
end

section
/-! Where the machine stops (60_exceptions.md R125): from a state that meets the invariant an accepting step always answers a next
state, and an answer step does on every answer of a shape that 20_memory.md R35 gives the transaction. -/

namespace Sys2Proof.Machine

/-! ### Accepting steps -/

/-- A word accepted in IDLE keeps the invariant. -/
theorem Inv.accept {s : State} (h : Inv s) (hp : s.ph = .idle) (w : Word) : Inv (s.accept w) :=
  { h with busy := fun _ hb => (nomatch hp.symm.trans hb), valid := nofun }

/-- Every command has an accepting step. -/
theorem exec_idle_exists_next {i : Instr} {s : State} (h : Inv s) (hp : s.ph = .idle) : ∃ t, exec i s = .next t := by
  cases hr : isRmu i with
  | true =>
    obtain ⟨r, hexec, -⟩ := registerMapCommandsOnlyAnswer i s hr h hp
    exact ⟨_, hexec⟩
  | false =>
    cases i <;> simp only [isRmu, Bool.true_eq_false] at hr
    case openSession bus addr =>
      match hs : s.sess with
      | .closed => exact ⟨_, exec_open_closed bus addr hp hs⟩
      | .opened => exact ⟨_, exec_open_opened bus addr hp hs⟩
    case testMode =>
      match hs : s.sess with
      | .closed => exact ⟨_, exec_testMode_closed hp hs⟩
      | .opened => exact ⟨_, exec_testMode_opened hp hs⟩
    case readSample dv =>
      by_cases hd : dv = 0b111
      · subst hd
        match hs : s.sess with
        | .closed => exact ⟨_, exec_readSample_closed hp hs⟩
        | .opened => exact ⟨_, exec_readSample_opened hp hs⟩
      · exact ⟨_, exec_readSample_missing hp hd⟩
    case closeSession =>
      match hs : s.sess with
      | .closed => exact ⟨_, exec_close_closed hp hs⟩
      | .opened => exact ⟨_, exec_close_opened hp hs⟩

/-- A word presented in IDLE always has a step. -/
theorem step_command_exists_next {s : State} {w : Word} {rest : List Input} (h : Inv s) (hp : s.ph = .idle)
    (hi : s.inputs = .command w :: rest) : ∃ t, step s = .next t := by
  rw [step_command hi hp, acceptWord]
  split
  · exact exec_idle_exists_next (h.accept hp w) hp
  · exact ⟨_, rfl⟩

/-! ### Answer steps -/

/-- CLOSE's answer step. -/
theorem exec_close_busy {s : State} (hp : s.ph = .busy .release) :
    exec .closeSession s = s.onAnswer .release fun a s => .next (s.closeAnswered a) := by
  simp only [exec, execClose, hp]

/-- OPEN goes on with every answer of the right shape but FAIL. -/
theorem openOk_exists_next {p : Params} {bus : BusId} {addr : SlaveAddr} {k : StepId} {tx : Transaction} {a : Answer}
    (s : State) (hk : k ≠ .release) (hport : stepTransaction p (.openSession bus addr) k = some tx)
    (hadmits : tx.admits a = true) (ha : a ≠ .fail) : ∃ t, openOk addr k a s = .next t := by
  cases k
  case release => exact absurd rfl hk
  case modeRead =>
    cases hport
    obtain ⟨b, rfl⟩ := admits_read_one hadmits ha
    simp only [openOk, testModeByte_byte, configureQuiesce_setM0]
    split <;> exact ⟨_, rfl⟩
  case confirmRead =>
    cases hport
    obtain ⟨b, rfl⟩ := admits_read_one hadmits ha
    exact ⟨_, rfl⟩
  case noStep | confirmMode | sampleAddrWrite | sampleRead => cases hport
  all_goals exact ⟨_, rfl⟩

/-- TEST_MODE goes on with every answer of the right shape but FAIL. -/
theorem testModeOk_exists_next {p : Params} {k : StepId} {tx : Transaction} {a : Answer} (s : State)
    (hport : stepTransaction p .testMode k = some tx) (hadmits : tx.admits a = true) (ha : a ≠ .fail) :
    ∃ t, testModeOk k a s = .next t := by
  cases k <;> cases hport
  case modeAddrWrite => exact ⟨_, rfl⟩
  case modeRead =>
    obtain ⟨b, rfl⟩ := admits_read_one hadmits ha
    exact ⟨_, rfl⟩

/-- READ_SAMPLE goes on with every answer of the right shape but FAIL. -/
theorem readSampleOk_exists_next {p : Params} {dv : BitVec 3} {k : StepId} {tx : Transaction} {a : Answer} (s : State)
    (hport : stepTransaction p (.readSample dv) k = some tx) (hadmits : tx.admits a = true) (ha : a ≠ .fail) :
    ∃ t, readSampleOk k a s = .next t := by
  cases k <;> cases hport
  case sampleAddrWrite => exact ⟨_, rfl⟩
  case sampleRead =>
    obtain ⟨b0, b1, b2, b3, b4, b5, rfl⟩ := admits_read_burst hadmits ha
    exact ⟨_, rfl⟩

/-- The answer step of a command at one of its steps, in a state that meets the invariant, takes an answer and goes on with every
one of the right shape. -/
theorem exec_busy_eq_onAnswer {i : Instr} {s : State} {k : StepId} {tx : Transaction} (hp : s.ph = .busy k)
    (hbusy : BusyWith s k i) (hport : stepTransaction s.params i k = some tx) :
    ∃ f, exec i s = s.onAnswer k f ∧
      ∀ a u, u.pendErr = s.pendErr → tx.admits a = true → ∃ t, f a u = .next t := by
  cases i
  case openSession bus addr =>
    by_cases hk : k = .release
    · subst hk
      obtain ⟨e, he⟩ := Option.ne_none_iff_exists'.mp (hbusy.pending.mp ⟨rfl, rfl⟩)
      exact ⟨_, exec_open_release hp, fun a u hu _ => ⟨_, endCleanup_some (hu.trans he)⟩⟩
    · refine ⟨_, exec_open_busy hp hk, fun a u _ hadmits => ?_⟩
      split
      · exact ⟨_, rfl⟩
      · exact openOk_exists_next u hk hport hadmits ‹_›
  case testMode =>
    refine ⟨_, exec_testMode_busy hp, fun a u _ hadmits => ?_⟩
    split
    · exact ⟨_, rfl⟩
    · exact testModeOk_exists_next u hport hadmits ‹_›
  case readSample dv =>
    refine ⟨_, exec_readSample_busy dv hp, fun a u _ hadmits => ?_⟩
    split
    · exact ⟨_, rfl⟩
    · exact readSampleOk_exists_next u hport hadmits ‹_›
  case closeSession =>
    obtain rfl : k = .release := by cases k <;> cases hport; rfl
    exact ⟨_, exec_close_busy hp, fun _ _ _ _ => ⟨_, rfl⟩⟩
  all_goals cases hport

/-- An answer of a shape that the environment cannot give stops the machine. -/
theorem onAnswer_misshapen {s : State} {k : StepId} {f : Answer → State → Out} {tx : Transaction} {a : Answer}
    {rest : List Input} (hb : s.bus = some tx) (hi : s.inputs = .answer a :: rest) (ha : tx.admits a = false) :
    s.onAnswer k f = .fault .answerShape := by
  simp [State.onAnswer, hb, hi, ha]

/-- An answer in BUSY has a step, unless its shape is wrong. -/
theorem step_answer_outcome {s : State} {k : StepId} {a : Answer} {rest : List Input} (h : Inv s) (hp : s.ph = .busy k)
    (hi : s.inputs = .answer a :: rest) :
    (∃ t, step s = .next t) ∨ step s = .fault .answerShape ∧ ∃ tx, s.bus = some tx ∧ tx.admits a = false := by
  obtain ⟨i, hbusy⟩ := h.busy k hp
  obtain ⟨tx, hport, hb⟩ := hbusy.port
  obtain ⟨f, hexec, hnext⟩ := exec_busy_eq_onAnswer hp hbusy hport
  have hstep : step s = s.onAnswer k f := by
    simp only [step_answer hi hp, answerStep, hbusy.cur, decode_encode, hexec]
  cases ha : tx.admits a with
  | true =>
    obtain ⟨t, ht⟩ := hnext a (s.takeAnswer tx a) rfl ha
    exact .inl ⟨t, by rw [hstep, onAnswer_answer hb hi ha, ht]⟩
  | false => exact .inr ⟨by rw [hstep, onAnswer_misshapen hb hi ha], tx, hb, ha⟩

/-- Settles O47: by the next input and the phase. -/
theorem stopsOnlyForWantOfAnInput : Obligations.StopsOnlyForWantOfAnInput := by
  intro s h
  match hi : s.inputs, hp : s.ph with
  | [], .idle => exact .inr (.inl ⟨rfl, .inl (noStepWithoutAnInput.1 s hi hp)⟩)
  | [], .busy k => exact .inr (.inl ⟨rfl, .inr ⟨k, noStepWithoutAnInput.2 s k hi hp⟩⟩)
  | .reset :: rest, _ => exact .inl ⟨_, step_reset hi⟩
  | .lateAnswer a :: rest, _ => exact .inl ⟨_, step_lateAnswer hi⟩
  | .command w :: rest, .idle => exact .inl (step_command_exists_next h hp hi)
  | .command w :: rest, .busy k => exact .inl ⟨_, step_command_busy hi hp⟩
  | .answer a :: rest, .idle => exact .inl ⟨_, step_answer_idle hi hp⟩
  | .answer a :: rest, .busy k =>
    obtain hnext | ⟨hfault, tx, hb, ha⟩ := step_answer_outcome h hp hi
    · exact .inl hnext
    · exact .inr (.inr ⟨hfault, a, rest, tx, rfl, hb, ha⟩)

end Sys2Proof.Machine
end

section
/-! OPEN from the bind to its end (41_session_mode.md R87 to R92): Configure's steps, the commit, the cleanup, and whole runs. -/

namespace Sys2Proof.Machine

/-! ### The steps of Configure -/

section
variable {s : State} {rest : List Input}

/-- The mode read in Configure step 1 (41_session_mode.md R87, R88). -/
theorem exec_open_modeRead (bus : BusId) (addr : SlaveAddr) {b : Byte}
    (h : s.Awaits .modeRead (.read 1) (.okBytes [b]) rest) :
    exec (.openSession bus addr) s =
      .next (if decodeMode b = .standby then
        { s.observed (.read 1) (.okBytes [b]) rest with
          cachedMode := decodeMode b, m0 := some (decodeMode b) }.waiting .cr1ActiveWrite (.write [0x10, 0x19])
      else
        { s.observed (.read 1) (.okBytes [b]) rest with
          cachedMode := decodeMode b, m0 := some (decodeMode b) }.waiting .cr1StandbyWrite (.write [0x10, 0x18])) := by
  rw [exec_open_awaits bus addr h (by decide) rfl (by simp)]
  simp only [openOk, testModeByte_byte, configureQuiesce_setM0]
  split <;> rfl

/-- The confirm read gives an active mode: OPEN commits (41_session_mode.md R91). -/
theorem exec_open_confirmed (bus : BusId) (addr : SlaveAddr) {b : Byte} (hm : (decodeMode b).isActive = true)
    (h : s.Awaits .confirmRead (.read 1) (.okBytes [b]) rest) :
    exec (.openSession bus addr) s =
      .next ({ s.observed (.read 1) (.okBytes [b]) rest with cachedMode := decodeMode b, sess := .opened }.completed
        (okResponse ((decodeMode b).code.setWidth 48))) := by
  rw [exec_open_awaits bus addr h (by decide) rfl (by simp)]
  simp only [openOk, testModeByte_byte, State.configureConfirm, hm, if_true, modeData, place_at_zero]
  rfl

/-- The confirm read gives another mode: a configuration error, after the cleanup (41_session_mode.md R90). -/
theorem exec_open_notConfirmed (bus : BusId) (addr : SlaveAddr) {b : Byte} (hm : (decodeMode b).isActive = false)
    (h : s.Awaits .confirmRead (.read 1) (.okBytes [b]) rest) :
    exec (.openSession bus addr) s =
      .next { { s.observed (.read 1) (.okBytes [b]) rest with cachedMode := decodeMode b }.waiting .release .release with
        pendErr := some { status := .configError, step := .confirmMode } } := by
  rw [exec_open_awaits bus addr h (by decide) rfl (by simp)]
  simp only [openOk, testModeByte_byte, State.configureConfirm, hm, Bool.false_eq_true, if_false]
  rfl

end

/-- Settles O31: each answer by OPEN's answer step. -/
theorem openReadsTheMode : Obligations.OpenReadsTheMode :=
  ⟨fun _ bus addr _ h => exec_open_awaits bus addr h (by decide) rfl (by decide),
    fun _ bus addr _ _ h => exec_open_awaits bus addr h (by decide) rfl (by decide)⟩

/-- Settles O32: the mode read by its two cases, the writes by OPEN's answer step. -/
theorem openQuiescesUnlessStandby : Obligations.OpenQuiescesUnlessStandby := by
  refine ⟨fun s bus addr b rest h hm => ?standby, fun s bus addr b rest h hm => ?other,
    fun _ bus addr _ h => exec_open_awaits bus addr h (by decide) rfl (by decide),
    fun _ bus addr _ h => exec_open_awaits bus addr h (by decide) rfl (by decide)⟩
  case standby => rw [exec_open_modeRead bus addr h, if_pos hm, hm]
  case other => rw [exec_open_modeRead bus addr h, if_neg hm]

/-- Settles O33: the confirm read by whether the mode is active. -/
theorem openConfirmsAndCommits : Obligations.OpenConfirmsAndCommits := by
  refine ⟨fun _ bus addr _ h => exec_open_awaits bus addr h (by decide) rfl (by decide),
    fun _ bus addr _ _ h => exec_open_awaits bus addr h (by decide) rfl (by decide),
    fun s bus addr b rest h hm => exec_open_confirmed bus addr ?active h,
    fun s bus addr b rest h hm => exec_open_notConfirmed bus addr ?inactive h⟩
  case active => obtain hm | hm := hm <;> rw [hm] <;> rfl
  case inactive => obtain hm | hm := hm <;> rw [hm] <;> rfl

/-! ### The cleanup -/

/-- Settles O34: a failure starts the cleanup, and any answer to its release ends it. -/
theorem failedOpenIsCleanedUp : Obligations.FailedOpenIsCleanedUp := by
  refine ⟨fun s bus addr k t rest hacquire hrelease h => ?started, fun s bus addr a e rest ha h he => ?ended⟩
  case started =>
    rw [exec_open_awaits_fail bus addr h hrelease, failOpen_of_ne_acquire hacquire]
    rfl
  case ended =>
    have hadmits : Transaction.release.admits a = true := by obtain rfl | rfl := ha <;> rfl
    rw [exec_open_release h.1, onAnswer_awaits h hadmits]
    exact endCleanup_some he

/-! ### Whole runs -/

/-- One step of OPEN in a run: an answer taken while `CUR` is the word of the OPEN. -/
theorem runSteps_open {n : Nat} {s t : State} {bus : BusId} {addr : SlaveAddr} {k : StepId} {tx : Transaction} {a : Answer}
    {rest : List Input} (h : s.Awaits k tx a rest) (hc : s.cur = some (encode (.openSession bus addr)))
    (hexec : exec (.openSession bus addr) s = .next t) : runSteps (n + 1) s = runSteps n t := by
  obtain ⟨hp, -, hi⟩ := h
  exact runSteps_answer hp hi hc (decode_encode _) hexec

/-- A run of OPEN as far as the mode read: acquire, bind and the address write answered OK (41_session_mode.md R85 to R87). -/
theorem runSteps_open_to_modeRead {n : Nat} {s : State} {bus : BusId} {addr : SlaveAddr} {rest : List Input}
    (hp : s.ph = .idle) (hs : s.sess = .closed)
    (hi : s.inputs = .command (encode (.openSession bus addr)) :: .answer .ok :: .answer .ok :: .answer .ok :: rest) :
    runSteps (n + 4) s = runSteps n
      ({ s.accepted (encode (.openSession bus addr)) rest with
        busId := some bus, devAddr := some addr,
        transcript := s.transcript ++ [(Transaction.acquire bus, Answer.ok), (Transaction.bind addr, Answer.ok),
          (Transaction.write [modeRegAddr s.params.modeReg], Answer.ok)] }.waiting .modeRead (.read 1)) := by
  obtain ⟨hbind, -⟩ := openBinds
  obtain ⟨haddress, hread⟩ := openReadsTheMode
  rw [runSteps_command hp hi (decode_encode _) (exec_open_closed bus addr hp hs),
    runSteps_open ⟨rfl, rfl, rfl⟩ rfl (hbind _ bus addr _ ⟨rfl, rfl, rfl⟩),
    runSteps_open ⟨rfl, rfl, rfl⟩ rfl (haddress _ bus addr _ ⟨rfl, rfl, rfl⟩),
    runSteps_open ⟨rfl, rfl, rfl⟩ rfl (hread _ bus addr _ _ ⟨rfl, rfl, rfl⟩)]
  simp [State.waiting, State.observed, State.accepted, State.setBusId, State.issue]

/-- A run of OPEN from the activate write to the commit (41_session_mode.md R89 to R91). -/
theorem runSteps_open_from_activate {s : State} {bus : BusId} {addr : SlaveAddr} {c : Byte} {rest : List Input}
    (h : s.Awaits .cr1ActiveWrite (.write [0x10, 0x19]) .ok (.answer .ok :: .answer (.okBytes [c]) :: rest))
    (hc : s.cur = some (encode (.openSession bus addr))) (hm : (decodeMode c).isActive = true) :
    runSteps 3 s = .next
      ({ s with
        inputs := rest, cachedMode := decodeMode c, sess := .opened,
        transcript := s.transcript ++ [(Transaction.write [0x10, 0x19], Answer.ok),
          (Transaction.write [modeRegAddr s.params.modeReg], Answer.ok), (Transaction.read 1, Answer.okBytes [c])]
        }.completed (okResponse ((decodeMode c).code.setWidth 48))) := by
  obtain ⟨haddress, hread, -⟩ := openConfirmsAndCommits
  refine Eq.trans (runSteps_open h hc (haddress _ bus addr _ h)) ?_
  refine Eq.trans (runSteps_open ⟨rfl, rfl, rfl⟩ hc (hread _ bus addr _ _ ⟨rfl, rfl, rfl⟩)) ?_
  refine Eq.trans (runSteps_open ⟨rfl, rfl, rfl⟩ hc (exec_open_confirmed bus addr hm ⟨rfl, rfl, rfl⟩)) ?_
  simp [State.waiting, State.observed, State.completed]

/-- Settles O35: the run as far as the mode read, the mode read, and the run from the activate write. -/
theorem openOfAStandbyDevice : Obligations.OpenOfAStandbyDevice := by
  intro s bus addr b c rest h hs hb hm hi
  obtain ⟨hstandby, -⟩ := openQuiescesUnlessStandby
  have hrun := calc runSteps 8 s
    _ = runSteps 4 _ := runSteps_open_to_modeRead h.1 hs hi
    _ = runSteps 3 _ := runSteps_open ⟨rfl, rfl, rfl⟩ rfl (hstandby _ bus addr b _ ⟨rfl, rfl, rfl⟩ hb)
    _ = .next _ := runSteps_open_from_activate ⟨rfl, rfl, rfl⟩ rfl hm
  refine ⟨_, hrun, rfl, rfl, rfl, rfl, rfl, rfl, rfl, rfl, ?_⟩
  simp [State.waiting, State.observed, State.completed, State.accepted]

/-- Settles O36: as for a device in Standby, with the force-Standby write and the CR2 write before the activate write. -/
theorem openOfAnActiveDevice : Obligations.OpenOfAnActiveDevice := by
  intro s bus addr b c rest h hs hb hm hi
  obtain ⟨-, hother, hcr2, hactivate⟩ := openQuiescesUnlessStandby
  have hrun := calc runSteps 10 s
    _ = runSteps 6 _ := runSteps_open_to_modeRead h.1 hs hi
    _ = runSteps 5 _ := runSteps_open ⟨rfl, rfl, rfl⟩ rfl (hother _ bus addr b _ ⟨rfl, rfl, rfl⟩ hb)
    _ = runSteps 4 _ := runSteps_open ⟨rfl, rfl, rfl⟩ rfl (hcr2 _ bus addr _ ⟨rfl, rfl, rfl⟩)
    _ = runSteps 3 _ := runSteps_open ⟨rfl, rfl, rfl⟩ rfl (hactivate _ bus addr _ ⟨rfl, rfl, rfl⟩)
    _ = .next _ := runSteps_open_from_activate ⟨rfl, rfl, rfl⟩ rfl hm
  refine ⟨_, hrun, rfl, rfl, rfl, rfl, rfl, rfl, rfl, rfl, ?_⟩
  simp [State.waiting, State.observed, State.completed, State.accepted]

end Sys2Proof.Machine
end

section
/-! The steps unfold the command-level view (41_session_mode.md R81): the machine's state while it waits, for each part of a
command, reaches what the view makes of the rest of the command. -/

namespace Sys2Proof.Machine

/-! ### Parts of commands -/

/-- Parts of a command in a row, grouped the other way. -/
theorem cmdThen_assoc {α β γ : Type} (c : Cmd α) (f : α → Cmd β) (g : β → Cmd γ) :
    cmdThen (cmdThen c f) g = cmdThen c fun a => cmdThen (f a) g := by
  funext s as
  simp only [cmdThen]
  cases c s as <;> rfl

/-- What follows sees only what the part before it gives. -/
theorem cmdThen_congr {α β : Type} {c c' : Cmd α} {s : State} {as : List Answer} (f : α → Cmd β) (h : c s as = c' s as) :
    cmdThen c f s as = cmdThen c' f s as := by
  simp only [cmdThen, h]

/-- A write, and what follows it. -/
theorem cmdThen_write {α : Type} (h : State → State) (f : Unit → Cmd α) (s : State) (as : List Answer) :
    cmdThen (cmdWrite h) f s as = f () (h s) as := rfl

/-- TestMode with its read answered (41_session_mode.md R82). -/
def cmdModeByte : Answer → Cmd (Mode × Byte)
  | .okBytes [b] => cmdThen (cmdWrite (State.setCachedMode (decodeMode b))) fun _ => cmdPure (decodeMode b, b)
  | _ => fun _ _ => .stops

/-- TestMode, and what follows it: two transactions in a row (41_session_mode.md R82). -/
theorem cmdTestMode_then {α : Type} (kw kr : StepId) (g : Mode × Byte → Cmd α) (s : State) (as : List Answer) :
    cmdThen (cmdTestMode kw kr) g s as =
      cmdThen (cmdTx kw (addrWrite (modeRegAddr s.params.modeReg)))
        (fun _ => cmdThen (cmdTx kr (.read 1)) fun a => cmdThen (cmdModeByte a) g) s as := by
  have htestMode : cmdTestMode kw kr s as =
      cmdThen (cmdTx kw (addrWrite (modeRegAddr s.params.modeReg)))
        (fun _ => cmdThen (cmdTx kr (.read 1)) cmdModeByte) s as := rfl
  rw [cmdThen_congr g htestMode, cmdThen_assoc]
  simp only [cmdThen_assoc]

/-- OPEN from the confirm read to the commit (41_session_mode.md R90, R91). -/
def cmdConfirm : Cmd Data :=
  cmdThen (cmdTestMode .confirmAddrWrite .confirmRead) fun mb =>
    cmdThen (if mb.1 = .activeRaw ∨ mb.1 = .activeCorrected then cmdPure mb.1 else cmdRaise .configError .confirmMode)
      fun m => cmdThen (cmdWrite State.openSession) fun _ => cmdPure (modeData m)

/-- OPEN from the activate write to the commit (41_session_mode.md R89 to R91). -/
def cmdActivate : Cmd Data :=
  cmdThen (cmdTx .cr1ActiveWrite (regWrite Reg.ctrlReg1.addr cr1ActiveImg)) fun _ => cmdConfirm

/-- OPEN from the mode read to the commit. -/
theorem cmdConfigure_then :
    (cmdThen cmdConfigure fun m => cmdThen (cmdWrite State.openSession) fun _ => cmdPure (modeData m)) =
      cmdThen (cmdTestMode .modeAddrWrite .modeRead) fun mb =>
        cmdThen (cmdWrite (State.setM0 mb.1)) fun _ => cmdThen cmdQuiesce fun _ => cmdActivate := by
  simp only [cmdConfigure, cmdActivate, cmdConfirm, cmdThen_assoc]

/-- Configure's step 2 right after `M0` is written, when it is STANDBY (41_session_mode.md R88). -/
theorem cmdThen_quiesce_standby {m : Mode} (hm : m = .standby) (s : State) (f : Unit → Cmd Data) (as : List Answer) :
    cmdThen cmdQuiesce f (s.setM0 m) as = f () (s.setM0 m) as :=
  cmdThen_congr (c' := cmdPure ()) f (if_pos hm)

/-- Configure's step 2 right after `M0` is written, when it is another mode (41_session_mode.md R88). -/
theorem cmdThen_quiesce_other {m : Mode} (hm : m ≠ .standby) (s : State) (f : Unit → Cmd Data) (as : List Answer) :
    cmdThen cmdQuiesce f (s.setM0 m) as =
      cmdThen (cmdTx .cr1StandbyWrite (regWrite Reg.ctrlReg1.addr cr1StandbyImg))
        (fun _ => cmdThen (cmdTx .cr2Write (regWrite Reg.ctrlReg2.addr (cr2Img s.params))) fun _ => f ()) (s.setM0 m) as := by
  rw [cmdThen_congr f (if_neg hm), cmdThen_assoc]
  simp only [cmdThen_assoc]
  rfl

/-! ### The machine beside the view -/

/-- The machine's state while it waits on transaction `t` of step `k`, the view's state being `u`. -/
def State.waitingWith (k : StepId) (t : Transaction) (ins : List Input) (u : State) : State :=
  { u.issue k t with inputs := ins }

/-- The machine's state in which it has taken the answer `a`. -/
def State.taken (k : StepId) (t : Transaction) (a : Answer) (ins : List Input) (u : State) : State :=
  (u.waitingWith k t (.answer a :: ins)).takeAnswer t a

/-- The view's state after the answer. -/
def State.logged (t : Transaction) (a : Answer) (u : State) : State :=
  { u with transcript := u.transcript ++ [(t, a)] }

/-- The machine's state reaches what the view says of the rest of the command, the inputs `later` coming after its answers. -/
def Agrees (later : List Input) (s : State) : CommandView → Prop
  | .completes t unused =>
    ∃ n, runSteps n s = .next { t with inputs := unused.map .answer ++ later } ∧ t.ph = .idle ∧ t.rspValid = true
  | .holds t =>
    later = [] → ∃ n k, runSteps n s = .next { t with inputs := [] } ∧ t.ph = .busy k ∧
      step { t with inputs := [] } = .fault (.awaitingAnswer k)
  | .stops => True

section
variable {later : List Input}

/-- One step before an agreement. -/
theorem Agrees.of_step {s s' : State} {v : CommandView} (h : step s = .next s') (hv : Agrees later s' v) :
    Agrees later s v := by
  cases v with
  | completes t unused =>
    obtain ⟨n, hn, ht⟩ := hv
    exact ⟨n + 1, (runSteps_succ h).trans hn, ht⟩
  | holds t =>
    intro hl
    obtain ⟨n, k, hn, ht⟩ := hv hl
    exact ⟨n + 1, k, (runSteps_succ h).trans hn, ht⟩
  | stops => trivial

/-- A command that has just answered. -/
theorem agrees_respond (u : State) (e : Status) (k : StepId) (d : Data) (unused : List Answer) :
    Agrees later { u.respond e k d with inputs := unused.map .answer ++ later } (.completes (u.respond e k d) unused) :=
  ⟨0, rfl, rfl, rfl⟩

/-- A block that waits with no answer to come. -/
theorem agrees_holds {s u : State} {k : StepId} (hs : s = { u with inputs := later }) (hp : u.ph = .busy k) :
    Agrees later s (.holds u) := by
  rintro rfl
  subst hs
  exact ⟨0, k, rfl, hp, noStepWithoutAnInput.2 _ k rfl hp⟩

/-- A block that takes an answer of the right shape. -/
theorem agrees_answer {i : Instr} {u s' : State} {k : StepId} {t : Transaction} {a : Answer} {rest : List Answer}
    {f : Answer → State → Out} {v : CommandView} (hcur : u.cur = some (encode i))
    (hexec : ∀ s : State, s.ph = .busy k → exec i s = s.onAnswer k f) (ha : t.admits a = true)
    (hf : f a (u.taken k t a (rest.map .answer ++ later)) = .next s') (hv : Agrees later s' v) :
    Agrees later (u.waitingWith k t ((a :: rest).map .answer ++ later)) v := by
  refine hv.of_step ?_
  have hc : (u.waitingWith k t ((a :: rest).map .answer ++ later)).cur = some (encode i) := hcur
  rw [step_answer rfl rfl]
  simp only [answerStep, hc, decode_encode]
  rw [hexec _ rfl]
  exact (onAnswer_answer rfl rfl ha).trans hf

/-- What the machine does at step `k` of command `i` matches the view, whose end of the command is `finish`: FAIL leads to
`fail`, any other answer to `ok`. -/
structure StepMatches (later : List Input) (i : Instr) (finish : CmdRes Data → CommandView)
    (fail : StepId → State → State) (ok : StepId → Answer → State → Out) (k : StepId) : Prop where
  held : ∀ k t s, finish (.held k t s) = .holds (s.issue k t)
  stops : finish .stops = .stops
  answers : ∀ s : State, s.ph = .busy k →
    exec i s = s.onAnswer k fun a s => if a = .fail then .next (fail k s) else ok k a s
  failed : ∀ (u : State) (t : Transaction) (rest : List Answer), u.cur = some (encode i) →
    Agrees later (fail k (u.taken k t .fail (rest.map .answer ++ later)))
      (finish (.raised .ioError k (u.logged t .fail) rest))

section
variable {i : Instr} {finish : CmdRes Data → CommandView} {fail : StepId → State → State}
  {ok : StepId → Answer → State → Out}

/-- A transaction of a command, and what follows it. -/
theorem agrees_tx {k : StepId} (h : StepMatches later i finish fail ok k) {u : State} {t : Transaction}
    {g : Answer → Cmd Data} (hcur : u.cur = some (encode i))
    (hok : ∀ a rest, t.admits a = true → a ≠ .fail →
      ∃ s', ok k a (u.taken k t a (rest.map .answer ++ later)) = .next s' ∧
        Agrees later s' (finish (g a (u.logged t a) rest))) (as : List Answer) :
    Agrees later (u.waitingWith k t (as.map .answer ++ later)) (finish (cmdThen (cmdTx k t) g u as)) := by
  rw [cmdTx, cmdThen_assoc]
  cases as with
  | nil =>
    rw [show cmdThen (cmdTransact k t) _ u [] = .held k t u from rfl, h.held]
    exact agrees_holds rfl rfl
  | cons a rest =>
    cases ha : t.admits a with
    | false =>
      simp only [cmdThen, cmdTransact, ha, Bool.false_eq_true, if_false, h.stops]
      trivial
    | true =>
      simp only [cmdThen, cmdTransact, ha, if_true]
      by_cases hfail : a = .fail
      · subst hfail
        exact agrees_answer hcur h.answers ha rfl (h.failed u t rest hcur)
      · obtain ⟨s', hs', hv⟩ := hok a rest ha hfail
        simp only [hfail, if_false]
        exact agrees_answer hcur h.answers ha ((if_neg hfail).trans hs') hv

/-- The TestMode sub-sequence of a command, and what follows it (41_session_mode.md R82). -/
theorem agrees_testMode {kw kr : StepId} (hw : StepMatches later i finish fail ok kw)
    (hr : StepMatches later i finish fail ok kr) {u : State} {f : Mode → Byte → State → Out} {g : Mode × Byte → Cmd Data}
    (hokw : ∀ a s, ok kw a s = .next (s.testModeRead kr)) (hokr : ∀ a s, ok kr a s = s.testModeByte a f)
    (hcur : u.cur = some (encode i))
    (hnext : ∀ (v : State) (b : Byte) (rest : List Answer), v.cur = some (encode i) →
      ∃ s', f (decodeMode b) b ((v.taken kr (.read 1) (.okBytes [b]) (rest.map .answer ++ later)).setCachedMode
          (decodeMode b)) = .next s' ∧
        Agrees later s' (finish (g (decodeMode b, b) ((v.logged (.read 1) (.okBytes [b])).setCachedMode (decodeMode b))
          rest))) (as : List Answer) :
    Agrees later (u.waitingWith kw (addrWrite (modeRegAddr u.params.modeReg)) (as.map .answer ++ later))
      (finish (cmdThen (cmdTestMode kw kr) g u as)) := by
  rw [cmdTestMode_then]
  refine agrees_tx hw hcur (fun a rest _ _ => ⟨_, hokw a _, ?_⟩) as
  refine agrees_tx hr (u := u.logged _ a) hcur (fun a' rest' hadmits hne => ?_) rest
  obtain ⟨b, rfl⟩ := admits_read_one hadmits hne
  rw [hokr]
  exact hnext (u.logged _ a) b rest' hcur

end

/-! ### OPEN -/

/-- OPEN's cleanup: the release is issued, and whatever it answers the original error is the response (41_session_mode.md R92). -/
theorem agrees_startCleanup {bus : BusId} {addr : SlaveAddr} {u : State} {e : Status} {k : StepId} (hk : k ≠ .acquire)
    (hcur : u.cur = some (encode (.openSession bus addr))) (as : List Answer) :
    Agrees later { u.startCleanup e k with inputs := as.map .answer ++ later } (finishOpen (.raised e k u as)) := by
  rw [finishOpen, if_neg hk]
  cases as with
  | nil => exact agrees_holds rfl rfl
  | cons a rest =>
    cases ha : Transaction.release.admits a with
    | false =>
      simp only [cmdTransact, ha, Bool.false_eq_true, if_false]
      trivial
    | true =>
      simp only [cmdTransact, ha, if_true]
      exact agrees_answer (u := { u with pendErr := some { status := e, step := k } }) hcur
        (fun s hp => exec_open_release hp) ha rfl (agrees_respond (u.logged .release a).clearSession e k 0 rest)

/-- At every step but the release, OPEN's steps match its view. -/
theorem open_stepMatches (bus : BusId) (addr : SlaveAddr) {k : StepId} (hk : k ≠ .release) :
    StepMatches later (.openSession bus addr) finishOpen (fun k s => s.failOpen .ioError k) (openOk addr) k where
  held := fun _ _ _ => rfl
  stops := rfl
  answers := fun s hp => exec_open_busy hp hk
  failed := fun u t rest hcur => by
    by_cases hacquire : k = .acquire
    · subst hacquire
      exact agrees_respond (u.logged t .fail).clearSession .ioError .acquire 0 rest
    · rw [failOpen_of_ne_acquire hacquire]
      exact agrees_startCleanup hacquire (u := u.logged t .fail) hcur rest

/-- The modes that confirm OPEN (41_session_mode.md R90). -/
theorem isActive_iff {m : Mode} : m.isActive = true ↔ m = .activeRaw ∨ m = .activeCorrected := by
  cases m <;> simp [Mode.isActive]

section
variable {bus : BusId} {addr : SlaveAddr} {u : State} (hcur : u.cur = some (encode (.openSession bus addr)))
include hcur

/-- OPEN waiting on the address write of the confirm read. -/
theorem agrees_confirm (as : List Answer) :
    Agrees later (u.waitingWith .confirmAddrWrite (addrWrite (modeRegAddr u.params.modeReg)) (as.map .answer ++ later))
      (finishOpen (cmdConfirm u as)) := by
  refine agrees_testMode (f := fun m _ s => .next (s.configureConfirm m)) (open_stepMatches bus addr (by decide))
    (open_stepMatches bus addr (by decide)) (fun _ _ => rfl) (fun _ _ => rfl) hcur (fun v b rest hv => ⟨_, rfl, ?_⟩) as
  unfold State.configureConfirm
  by_cases hm : (decodeMode b).isActive = true
  · rw [if_pos hm, if_pos (isActive_iff.mp hm)]
    exact agrees_respond ((v.logged (.read 1) (.okBytes [b])).setCachedMode (decodeMode b)).openSession .ok .noStep
      (modeData (decodeMode b)) rest
  · rw [if_neg hm, if_neg (mt isActive_iff.mpr hm)]
    exact agrees_startCleanup (by decide)
      (u := (v.logged (.read 1) (.okBytes [b])).setCachedMode (decodeMode b)) hv rest

/-- OPEN waiting on the activate write. -/
theorem agrees_activate (as : List Answer) :
    Agrees later (u.waitingWith .cr1ActiveWrite (regWrite Reg.ctrlReg1.addr cr1ActiveImg) (as.map .answer ++ later))
      (finishOpen (cmdActivate u as)) :=
  agrees_tx (open_stepMatches bus addr (by decide)) hcur
    (fun a rest _ _ => ⟨_, rfl, agrees_confirm (u := u.logged _ a) hcur rest⟩) as

/-- OPEN waiting on the force-Standby write. -/
theorem agrees_forceStandby (as : List Answer) :
    Agrees later (u.waitingWith .cr1StandbyWrite (regWrite Reg.ctrlReg1.addr cr1StandbyImg) (as.map .answer ++ later))
      (finishOpen (cmdThen (cmdTx .cr1StandbyWrite (regWrite Reg.ctrlReg1.addr cr1StandbyImg))
        (fun _ => cmdThen (cmdTx .cr2Write (regWrite Reg.ctrlReg2.addr (cr2Img u.params))) fun _ => cmdActivate) u as)) :=
  agrees_tx (open_stepMatches bus addr (by decide)) hcur (fun a rest _ _ => ⟨_, rfl,
    agrees_tx (u := u.logged _ a) (open_stepMatches bus addr (by decide)) hcur
      (fun a' rest' _ _ => ⟨_, rfl, agrees_activate (u := (u.logged _ a).logged _ a') hcur rest'⟩) rest⟩) as

/-- OPEN waiting on the address write of the mode read (41_session_mode.md R87, R88). -/
theorem agrees_configure (as : List Answer) :
    Agrees later (u.waitingWith .modeAddrWrite (addrWrite (modeRegAddr u.params.modeReg)) (as.map .answer ++ later))
      (finishOpen (cmdThen cmdConfigure
        (fun m => cmdThen (cmdWrite State.openSession) fun _ => cmdPure (modeData m)) u as)) := by
  rw [cmdConfigure_then]
  refine agrees_testMode (f := fun m _ s => (s.setM0 m).configureQuiesce) (open_stepMatches bus addr (by decide))
    (open_stepMatches bus addr (by decide)) (fun _ _ => rfl) (fun _ _ => rfl) hcur (fun v b rest hv => ?_) as
  rw [cmdThen_write, configureQuiesce_setM0]
  by_cases hm : decodeMode b = .standby
  · rw [if_pos hm, cmdThen_quiesce_standby hm]
    exact ⟨_, rfl, agrees_activate
      (u := ((v.logged (.read 1) (.okBytes [b])).setCachedMode (decodeMode b)).setM0 (decodeMode b)) hv rest⟩
  · rw [if_neg hm, cmdThen_quiesce_other hm]
    exact ⟨_, rfl, agrees_forceStandby
      (u := ((v.logged (.read 1) (.okBytes [b])).setCachedMode (decodeMode b)).setM0 (decodeMode b)) hv rest⟩

/-- OPEN waiting on the acquire (41_session_mode.md R85, R86). -/
theorem agrees_open (as : List Answer) :
    Agrees later ((u.setBusId bus).waitingWith .acquire (.acquire bus) (as.map .answer ++ later))
      (finishOpen (cmdOpen bus addr u as)) :=
  agrees_tx (u := u.setBusId bus) (open_stepMatches bus addr (by decide)) hcur (fun a rest _ _ => ⟨_, rfl,
    agrees_tx (u := ((u.setBusId bus).logged _ a).setDevAddr addr) (open_stepMatches bus addr (by decide)) hcur
      (fun a' rest' _ _ => ⟨_, rfl,
        agrees_configure (u := (((u.setBusId bus).logged _ a).setDevAddr addr).logged _ a') hcur rest'⟩) rest⟩) as

end

/-! ### The commands of an open session -/

/-- TEST_MODE's steps match its view. -/
theorem testMode_stepMatches (k : StepId) :
    StepMatches later .testMode finishPlain (fun k s => s.raise .ioError k) testModeOk k where
  held := fun _ _ _ => rfl
  stops := rfl
  answers := fun _ hp => exec_testMode_busy hp
  failed := fun u t rest _ => agrees_respond (u.logged t .fail) .ioError k 0 rest

/-- TEST_MODE waiting on its address write (41_session_mode.md R83). -/
theorem agrees_testModeCommand {u : State} (hcur : u.cur = some (encode .testMode)) (as : List Answer) :
    Agrees later (u.waitingWith .modeAddrWrite (addrWrite (modeRegAddr u.params.modeReg)) (as.map .answer ++ later))
      (finishPlain (cmdTestModeCommand u as)) :=
  agrees_testMode (f := fun m b s => .next (s.done (testModeData m b))) (testMode_stepMatches _) (testMode_stepMatches _)
    (fun _ _ => rfl) (fun _ _ => rfl) hcur (fun v b rest _ => ⟨_, rfl,
      agrees_respond ((v.logged (.read 1) (.okBytes [b])).setCachedMode (decodeMode b)) .ok .noStep
        (testModeData (decodeMode b) b) rest⟩) as

/-- READ_SAMPLE's steps match its view. -/
theorem readSample_stepMatches (dv : BitVec 3) (k : StepId) :
    StepMatches later (.readSample dv) finishPlain (fun k s => s.raise .ioError k) readSampleOk k where
  held := fun _ _ _ => rfl
  stops := rfl
  answers := fun _ hp => exec_readSample_busy dv hp
  failed := fun u t rest _ => agrees_respond (u.logged t .fail) .ioError k 0 rest

/-- READ_SAMPLE waiting on its address write (42_sample_close.md R95). -/
theorem agrees_readSample {u : State} {dv : BitVec 3} (hcur : u.cur = some (encode (.readSample dv))) (as : List Answer) :
    Agrees later (u.waitingWith .sampleAddrWrite (addrWrite Reg.outXMsb.addr) (as.map .answer ++ later))
      (finishPlain (cmdReadSample u as)) := by
  refine agrees_tx (readSample_stepMatches dv _) hcur (fun a rest _ _ => ⟨_, rfl, ?_⟩) as
  refine agrees_tx (u := u.logged _ a) (readSample_stepMatches dv _) hcur (fun a' rest' hadmits hne => ?_) rest
  obtain ⟨b0, b1, b2, b3, b4, b5, rfl⟩ := admits_read_burst hadmits hne
  exact ⟨_, rfl, agrees_respond (((u.logged _ a).logged _ _).setWb ⟨b0, b1, b2, b3, b4, b5⟩) .ok .noStep
    (sampleData (reassemble ⟨b0, b1, b2, b3, b4, b5⟩)) rest'⟩

/-- CLOSE waiting on its release (42_sample_close.md R100). -/
theorem agrees_close {u : State} (hcur : u.cur = some (encode .closeSession)) (as : List Answer) :
    Agrees later (u.waitingWith .release .release (as.map .answer ++ later)) (finishPlain (cmdClose u as)) := by
  cases as with
  | nil => exact agrees_holds rfl rfl
  | cons a rest =>
    cases ha : Transaction.release.admits a with
    | false =>
      simp only [cmdClose, cmdThen, cmdTransact, ha, Bool.false_eq_true, if_false]
      trivial
    | true =>
      simp only [cmdClose, cmdThen, cmdTransact, ha, if_true]
      refine agrees_answer hcur (fun s hp => exec_close_busy hp) ha rfl ?_
      unfold State.closeAnswered
      split
      · exact agrees_respond (u.logged .release a).clearSession .ioError .release 0 rest
      · exact agrees_respond (u.logged .release a).clearSession .ok .noStep 0 rest

/-! ### Whole commands -/

/-- The view of a Register Map command is its step. -/
theorem commandView_rmu {i : Instr} (hi : isRmu i = true) (u : State) (as : List Answer) :
    commandView i u as = ofStep (exec i u) as := by
  cases i <;> simp only [isRmu, Bool.false_eq_true] at hi <;> rfl

/-- A session is CLOSED or OPEN (10_state.md R21). -/
theorem closed_or_opened (x : Session) : x = .closed ∨ x = .opened := by
  cases x <;> simp

/-- GET_STATE accepted while CLOSED, whatever is left on the bus port (40_register_map.md R78). -/
theorem exec_getState_idle_closed {s : State} (hp : s.ph = .idle) (hs : s.sess = .closed) :
    exec .getState s = .next (s.done (stateData .closed s.cachedMode 0 0)) := by
  simp only [exec, execGetState, onAccept_idle hp, hs]

/-- GET_STATE accepted while OPEN, whatever is left on the bus port (40_register_map.md R78). -/
theorem exec_getState_idle_opened {s : State} {addr : SlaveAddr} {bus : BusId} (hp : s.ph = .idle) (hs : s.sess = .opened)
    (ha : s.devAddr = some addr) (hb : s.busId = some bus) :
    exec .getState s = .next (s.done (stateData .opened s.cachedMode addr bus)) := by
  simp only [exec, execGetState, onAccept_idle hp, hs, ha, hb]

/-- The accepting step of a Register Map command does not read the inputs. -/
theorem exec_rmu_inputs {i : Instr} {u t : State} (hi : isRmu i = true) (h : exec i u = .next t) (ins : List Input) :
    exec i { u with inputs := ins } = .next { t with inputs := ins } := by
  have hp : u.ph = .idle := (exec_rmu_next hi h).1
  by_cases hget : i = .getState
  · subst hget
    rw [exec, execGetState, onAccept_idle hp] at h
    split at h
    · cases h
      exact exec_getState_idle_closed (s := { u with inputs := ins }) hp ‹_›
    · split at h <;> cases h
      exact exec_getState_idle_opened (s := { u with inputs := ins }) hp ‹_› ‹_› ‹_›
  · obtain ⟨e, d, -, hall⟩ := exec_rmu_answers u.params hi hget
    cases (hall u hp rfl).symm.trans h
    exact hall { u with inputs := ins } hp rfl

/-- The accepting step of a command agrees with the command's view. -/
theorem exec_agrees {i : Instr} {u : State} (hp : u.ph = .idle) (hcur : u.cur = some (encode i)) (as : List Answer) :
    commandView i u as = .stops ∨
      ∃ s', exec i { u with inputs := as.map .answer ++ later } = .next s' ∧ Agrees later s' (commandView i u as) := by
  cases hr : isRmu i with
  | true =>
    rw [commandView_rmu hr]
    match hexec : exec i u with
    | .fault _ => exact .inl rfl
    | .refused _ => exact .inl rfl
    | .next t =>
      obtain ⟨-, e, d, -, rfl⟩ := exec_rmu_next hr hexec
      exact .inr ⟨_, exec_rmu_inputs hr hexec _, agrees_respond u e .noStep d as⟩
  | false =>
    refine .inr ?_
    have hsess := closed_or_opened u.sess
    cases i <;> simp only [isRmu, Bool.true_eq_false] at hr
    case openSession bus addr =>
      obtain hs | hs := hsess
      · rw [commandView, if_neg (by simp [hs])]
        exact ⟨_, exec_open_closed bus addr hp hs, agrees_open hcur as⟩
      · rw [commandView, if_pos hs]
        exact ⟨_, exec_open_opened bus addr hp hs, agrees_respond u _ _ _ as⟩
    case testMode =>
      obtain hs | hs := hsess
      · rw [commandView, if_pos hs]
        exact ⟨_, exec_testMode_closed hp hs, agrees_respond u _ _ _ as⟩
      · rw [commandView, if_neg (by simp [hs])]
        exact ⟨_, exec_testMode_opened hp hs, agrees_testModeCommand hcur as⟩
    case readSample dv =>
      by_cases hd : dv = 0b111
      · subst hd
        rw [commandView, if_neg (by decide)]
        obtain hs | hs := hsess
        · rw [if_pos hs]
          exact ⟨_, exec_readSample_closed hp hs, agrees_respond u _ _ _ as⟩
        · rw [if_neg (by simp [hs])]
          exact ⟨_, exec_readSample_opened hp hs, agrees_readSample hcur as⟩
      · rw [commandView, if_pos (by simpa [allDestinations] using hd)]
        exact ⟨_, exec_readSample_missing hp hd, agrees_respond u _ _ _ as⟩
    case closeSession =>
      obtain hs | hs := hsess
      · rw [commandView, if_pos hs]
        exact ⟨_, exec_close_closed hp hs, agrees_respond u _ _ _ as⟩
      · rw [commandView, if_neg (by simp [hs])]
        exact ⟨_, exec_close_opened hp hs, agrees_close hcur as⟩

/-- The machine, with a word presented in IDLE, agrees with the view of the word. -/
theorem runCommand_agrees {s : State} {w : Word} {as : List Answer} (hp : s.ph = .idle)
    (hi : s.inputs = .command w :: as.map .answer ++ later) : Agrees later s (runCommand s w as) := by
  have hstep := step_command hi hp
  have haccept : s.accept w = { ({ s.accept w with inputs := [] } : State) with inputs := as.map .answer ++ later } := by
    simp [State.accept, hi]
  unfold acceptWord at hstep
  unfold runCommand
  cases hd : decode w with
  | error e =>
    rw [hd, haccept] at hstep
    exact (agrees_respond { s.accept w with inputs := [] } .illegalCommand .noStep 0 as).of_step hstep
  | ok i =>
    rw [hd, haccept] at hstep
    have hcur : ({ s.accept w with inputs := [] } : State).cur = some (encode i) := congrArg some (encode_of_decode hd).symm
    obtain hstops | ⟨s', hs', hv⟩ := exec_agrees (later := later) (u := { s.accept w with inputs := [] }) hp hcur as
    · simp only [hstops]
      trivial
    · exact hv.of_step (hstep.trans hs')

end

/-- Settles O57: a completed view and a held one are the two cases of the agreement. -/
theorem stepsUnfoldTheCommandView : Obligations.StepsUnfoldTheCommandView := by
  refine fun s w as hp => ⟨fun later t unused hi hv => ?completes, fun t hi hv => ?holds⟩
  case completes =>
    have hagrees := runCommand_agrees hp hi
    rwa [hv] at hagrees
  case holds =>
    have hagrees := runCommand_agrees (later := []) hp (hi.trans (List.append_nil _).symm)
    rw [hv] at hagrees
    exact hagrees rfl

end Sys2Proof.Machine
end
